-- ==== Sys2Proof/Word.lean ====
section
/-! DEFINITION. The words that appear on the wires of the GHV-340, and the moduli of its wrapping counts. -/

namespace Sys2Proof

/-- A byte shifted on a port, or the eight data bits of a pressure line character. -/
abbrev Byte := BitVec 8

/-- A four-byte field of a frame: a notice mask or a notice parameter (R192). -/
abbrev Word32 := BitVec 32

/-- The modulus of a 32-bit count (station time, spin count, run number). -/
abbrev two32 : Nat := 4294967296

/-- The modulus of the 16-bit rating generation (R57). -/
abbrev two16 : Nat := 65536

end Sys2Proof
end

