-- ==== Sys2Proof/Syntax.lean ====
section
/-! DEFINITION. The commands of the GHV-340: one constructor of `Instr` for each row of spec/opcode_table.json,
with the operands its entry gives. A request carries the port that sends it. -/

namespace Sys2Proof

/-- The three station ports (00_scope.md, "The part in its station"). -/
inductive Port where
  | a | b | c
deriving DecidableEq, Repr

/-- One value for each port. -/
structure PerPort (α : Type) where
  a : α
  b : α
  c : α
deriving DecidableEq, Repr

/-- A field that names one of a set of values, or carries a value outside the set. A value outside the set is refused
with BAD_VALUE and is never clamped (00_scope.md, "Configuration values"; R189). -/
inductive Code (α : Type) where
  | named (v : α)
  | outside
deriving DecidableEq, Repr

/-- The levels of the two channels of a quadrature encoder. -/
structure LevelPair where
  a : Bool
  b : Bool
deriving DecidableEq, Repr

/-- The two gauges (R11, R20). -/
inductive Gauge where
  | float | press
deriving DecidableEq, Repr

/-- The two rating banks (R46). -/
inductive Bank where
  | principal | alternate
deriving DecidableEq, Repr

/-- The two outputs that run patterns (R102, R107). -/
inductive Output where
  | siren | beacon
deriving DecidableEq, Repr

/-- The trigger classes, in the order in which R84 lists them. -/
inductive TriggerClass where
  | sensorLost | sensorBack | stageUp | stageDown | rateHigh | rateNormal | flowHigh | flowNormal
deriving DecidableEq, Repr

/-- The method of an interior vertical (R140, R149). -/
inductive Method where
  | one | two | surf
deriving DecidableEq, Repr

/-- The sides of MARK_EDGE that its START row can carry: START, or a value that is neither START nor END (R142).
The END side is the row MARK_EDGE_END. -/
inductive EdgeSide where
  | start | other
deriving DecidableEq, Repr

/-- One value for each k from 1 to 3 (thresholds, hysteresis, persistences; R64). -/
structure PerStep (α : Type) where
  k1 : α
  k2 : α
  k3 : α
deriving DecidableEq, Repr

/-- One value for each warning level 0 to 3. -/
structure PerLevel (α : Type) where
  l0 : α
  l1 : α
  l2 : α
  l3 : α
deriving DecidableEq, Repr

/-- The optional fields of SET_SENSING (R20). -/
structure SensingArgs where
  primary    : Option (Code Gauge)
  pitchNm    : Option Int
  gain       : Option Int
  staleS     : Option Int
  stepMm     : Option Int
  holdLimitS : Option Int
  agreeMm    : Option Int
deriving DecidableEq, Repr

/-- The optional fields of SET_WARNING_SETTINGS (R79). -/
structure WarningArgs where
  u      : PerStep (Option Int)
  h      : PerStep (Option Int)
  pu     : PerStep (Option Int)
  pd     : PerStep (Option Int)
  rHi    : Option Int
  rLo    : Option Int
  pr     : Option Int
  qHi    : Option Int
  flowHyst : Option Int
  pq     : Option Int
  siren  : PerLevel (Option Nat)
  beacon : PerLevel (Option Nat)
deriving DecidableEq, Repr

/-- The seven fields of SET_ACTION as the request carries them; an absent number is KEEP, and each of the last three names one of its
two values or carries another, which is refused (R84, R92, R189). -/
structure ActionArgs where
  next     : Option Nat
  siren    : Option Nat
  beacon   : Option Nat
  interval : Option Nat
  notice   : Code Bool
  ack      : Code Bool
  retrieve : Code Bool
deriving DecidableEq, Repr

/-- The optional fields of SET_ACK_SETTINGS (R98). -/
structure AckArgs where
  timeout : PerLevel (Option Int)
  acked   : PerLevel (Option Nat)
  overdue : PerLevel (Option Nat)
deriving DecidableEq, Repr

/-- One segment of SET_METER: an upper bound (absent for the last segment), a and b_c (R120, R121). -/
structure SegmentArg where
  bound : Option Int
  a     : Int
  bc    : Int
deriving DecidableEq, Repr

/-- The optional fields of ALTER, in the order of the table of R148. -/
structure AlterArgs where
  depth   : Option Int
  method  : Option (Code Method)
  angle   : Option Int
  excl    : Option Nat
  incl    : Option Nat
deriving DecidableEq, Repr

/-- The operands of EXPOSURE_EXPIRY: the ms the cableway counter unit's timebase has counted since its last event, and whether an
expiry that falls on the last of them waits, so that what falls together with it is taken first (R124, R125, R129, log 5). -/
structure ExpiryArgs where
  ms    : Nat
  waits : Bool
deriving DecidableEq, Repr

/-- The commands. Each constructor is one row of spec/opcode_table.json; its docstring names the row and its rule. -/
inductive Instr where
  /-- STATION_CLOCK_COUNT (R24). -/
  | stationClockCount
  /-- MINUTE_CLOSE (R31). -/
  | minuteClose
  /-- FLOAT_ENCODER_TRANSITION (R2): the new level pair. -/
  | floatEncoderTransition (pair : LevelPair)
  /-- PRESS_CHARACTER_ARRIVAL (R5): the data bits and whether the stop bit was high. -/
  | pressCharacterArrival (data : Byte) (stopHigh : Bool)
  /-- PRESS_IDLE_GAP (R6). -/
  | pressIdleGap
  /-- TRAVERSE_TRANSITION (R112): the new level pair. -/
  | traverseTransition (pair : LevelPair)
  /-- SOUNDING_TRANSITION (R115): the new level pair. -/
  | soundingTransition (pair : LevelPair)
  /-- METER_CLOSURE (R119): the ms the unit's timebase has counted since its last event. -/
  | meterClosure (ms : Nat)
  /-- EXPOSURE_EXPIRY (R124). -/
  | exposureExpiry (a : ExpiryArgs)
  /-- PHASE_EXPIRY (R102): the engine, and the ms its timer has counted since its last event. -/
  | phaseExpiry (out : Output) (ms : Nat)
  /-- IDLE_EXPIRY (R51). -/
  | idleExpiry
  /-- DEADLINE_EXPIRY (R95). -/
  | deadlineExpiry
  /-- SAVE_COMPLETION (R194). -/
  | saveCompletion
  /-- POWER_ON (R197): whether backup power held throughout the loss, and the level pairs present on the channels. -/
  | powerOn (backupHeld : Bool) (floatPair traversePair soundingPair : LevelPair)
  /-- MAIN_POWER_LOSS (R195). -/
  | mainPowerLoss
  /-- EXCHANGE_BEGIN (R175). -/
  | exchangeBegin (p : Port)
  /-- EXCHANGE_END (R178): the bytes the master clocked in. -/
  | exchangeEnd (p : Port) (bytes : List Byte)
  /-- NULL (R179). -/
  | null (p : Port)
  /-- READ_NOTICE (R184). -/
  | readNotice (p : Port)
  /-- CLEAR_PORT (R188). -/
  | clearPort (p : Port)
  /-- SET_NOTICE_MASK (R186): bit k - 1 names the kind of code k (R192). -/
  | setNoticeMask (p : Port) (mask : Word32)
  /-- GET_PORT_STATUS (R187). -/
  | getPortStatus (p : Port)
  /-- SAVE_SETTINGS (R194). -/
  | saveSettings (p : Port)
  /-- RESTART (R198). -/
  | restart (p : Port)
  /-- GET_STAGE (R22). -/
  | getStage (p : Port)
  /-- SET_FLOAT_STAGE (R18). -/
  | setFloatStage (p : Port) (v : Int)
  /-- SET_PRESS_STAGE (R19). -/
  | setPressStage (p : Port) (v : Int)
  /-- SET_SENSING (R20). -/
  | setSensing (p : Port) (args : SensingArgs)
  /-- GET_SENSING (R20). -/
  | getSensing (p : Port)
  /-- GET_CLOCK (R25). -/
  | getClock (p : Port)
  /-- SET_CLOCK (R26). -/
  | setClock (p : Port) (t : Nat)
  /-- READ_LOG (R38). -/
  | readLog (p : Port) (count : Nat)
  /-- ADVANCE_LOG (R39). -/
  | advanceLog (p : Port) (n : Nat)
  /-- SEEK_LOG (R40). -/
  | seekLog (p : Port) (seq : Nat)
  /-- GET_LOG_STATUS (R41). -/
  | getLogStatus (p : Port)
  /-- GET_TREND (R42). -/
  | getTrend (p : Port)
  /-- SET_LOG_SETTINGS (R43): W, and the default log interval in minutes. -/
  | setLogSettings (p : Port) (w : Option Int) (interval : Option Nat)
  /-- GET_LOG_SETTINGS (R43). -/
  | getLogSettings (p : Port)
  /-- RATING_QUERY (R49). -/
  | ratingQuery (p : Port) (bank : Code Bank) (h : Int)
  /-- RATING_BEGIN (R52). -/
  | ratingBegin (p : Port)
  /-- RATING_POINT (R53). -/
  | ratingPoint (p : Port) (index : Nat) (h q : Int)
  /-- RATING_TRUNCATE (R54). -/
  | ratingTruncate (p : Port) (count : Nat)
  /-- RATING_COMMIT (R55). -/
  | ratingCommit (p : Port)
  /-- RATING_CANCEL (R56). -/
  | ratingCancel (p : Port)
  /-- READ_RATING (R58). -/
  | readRating (p : Port) (bank : Code Bank) (first : Nat)
  /-- GET_RATING_STATUS (R59). -/
  | getRatingStatus (p : Port)
  /-- GET_WARNING (R81). -/
  | getWarning (p : Port)
  /-- FORCE_LEVEL (R77). -/
  | forceLevel (p : Port) (k : Nat)
  /-- SET_WARNING_SETTINGS (R79). -/
  | setWarningSettings (p : Port) (args : WarningArgs)
  /-- GET_WARNING_SETTINGS (R79). -/
  | getWarningSettings (p : Port)
  /-- ACK (R94). -/
  | ack (p : Port) (level : Nat)
  /-- SET_ACTION (R92). -/
  | setAction (p : Port) (level : Nat) (cls : Code TriggerClass) (args : ActionArgs)
  /-- GET_ACTION (R92). -/
  | getAction (p : Port) (level : Nat) (cls : Code TriggerClass)
  /-- SET_ACK_SETTINGS (R98). -/
  | setAckSettings (p : Port) (args : AckArgs)
  /-- GET_ACK_SETTINGS (R98). -/
  | getAckSettings (p : Port)
  /-- GET_OUTPUTS (R110). -/
  | getOutputs (p : Port)
  /-- OUTPUT_TEST (R107). -/
  | outputTest (p : Port) (out : Code Output) (pattern : Nat) (bursts : Int)
  /-- SET_PATTERN (R101). -/
  | setPattern (p : Port) (number : Nat) (onMs offMs burst pauseMs : Int)
  /-- GET_PATTERN (R101). -/
  | getPattern (p : Port) (number : Nat)
  /-- READ_POSITION (R131). -/
  | readPosition (p : Port)
  /-- SET_INITIAL_POINT (R114). -/
  | setInitialPoint (p : Port) (v : Int)
  /-- SURFACE_MARK (R117). -/
  | surfaceMark (p : Port)
  /-- SET_METER (R121). -/
  | setMeter (p : Port) (index : Nat) (c : Int) (count : Nat) (segs : List SegmentArg)
  /-- GET_METER (R121). -/
  | getMeter (p : Port) (index : Nat)
  /-- SET_COUNTER_SETTINGS (R122): the two pitches and the debounce dead time. -/
  | setCounterSettings (p : Port) (traverse sounding deadMs : Option Int)
  /-- GET_COUNTER_SETTINGS (R122). -/
  | getCounterSettings (p : Port)
  /-- GET_RUN (R158). -/
  | getRun (p : Port)
  /-- OPEN_RUN (R139). -/
  | openRun (p : Port) (meter : Nat) (target : Int) (coeff : Option Int)
  /-- TAKE_RUN (R137). -/
  | takeRun (p : Port)
  /-- MARK_EDGE_START (R142): MARK_EDGE with side START, or with a side that is neither START nor END. -/
  | markEdgeStart (p : Port) (side : EdgeSide) (depth factor : Int)
  /-- MARK_EDGE_END (R152): MARK_EDGE with side END. -/
  | markEdgeEnd (p : Port) (depth factor : Int)
  /-- BEGIN_VERTICAL (R143). -/
  | beginVertical (p : Port)
  /-- MARK_BED (R144). -/
  | markBed (p : Port)
  /-- START_POINT (R145): the fraction in tenths of the depth. -/
  | startPoint (p : Port) (fraction : Nat)
  /-- STOP_POINT (R146). -/
  | stopPoint (p : Port)
  /-- END_VERTICAL (R147). -/
  | endVertical (p : Port) (method : Code Method) (angle : Int)
  /-- ALTER (R148). -/
  | alter (p : Port) (args : AlterArgs)
  /-- ACCEPT (R150). -/
  | accept (p : Port)
  /-- REDO (R151): keep depth, yes or no. -/
  | redo (p : Port) (keepDepth : Code Bool)
  /-- CLOSE_RUN (R153). -/
  | closeRun (p : Port)
  /-- ABANDON_RUN (R154). -/
  | abandonRun (p : Port)
  /-- RESUME_RUN (R156). -/
  | resumeRun (p : Port)
  /-- SET_RUN_SETTINGS (R157). -/
  | setRunSettings (p : Port) (stopLevel : Nat)
  /-- GET_RUN_SETTINGS (R157). -/
  | getRunSettings (p : Port)
  /-- READ_RESULT (R172). -/
  | readResult (p : Port) (age : Nat)
  /-- READ_VERTICAL (R173). -/
  | readVertical (p : Port) (index : Nat) (point : Option Nat)
  /-- PRESS_LINE_RETURNS_HIGH (R4). -/
  | pressLineReturnsHigh
deriving DecidableEq, Repr

end Sys2Proof
end

