-- ==== Sys2Proof/Decode.lean ====
section
/-! DEFINITION. The command that a word spells by the bits of spec/opcode_table.json. The table gives no row any bits, so no word
spells a command. The frames of the ports, which do carry codes, are read in Machine/Requests.lean. -/

namespace Sys2Proof

/-- The command a word of the table's bits spells; none, since every row's list of fields is empty. -/
def decodeTableWord (_nbits _w : Nat) : Option Instr := none

end Sys2Proof
end

