-- ==== Sys2Proof/Machine/Types.lean ====
section
/-! DEFINITION. The records the blocks of the GHV-340 keep and the bodies of their responses. Quantities are integers in the
units of 00_scope.md, "Conventions"; counts are natural numbers; every type is plain data. -/

namespace Sys2Proof.Machine

open Sys2Proof

/-! ### Names -/

/-- The warning levels (R62). -/
inductive Level where
  | normal | watch | warning | danger
deriving DecidableEq, Repr

/-- The steps k = 1 to 3 of the thresholds: step k leads from level k - 1 up to level k (R64). -/
inductive UpStep where
  | k1 | k2 | k3
deriving DecidableEq, Repr

/-- The seven log intervals, in minutes (R32, R43). -/
inductive Interval where
  | m1 | m2 | m5 | m10 | m15 | m30 | m60
deriving DecidableEq, Repr

/-- Sensor states (R15). -/
inductive SensorState where
  | ok | holding | lost
deriving DecidableEq, Repr

/-- The causes of a counter fault flag (R2, R112, R115, R122). -/
inductive FaultCause where
  | illegalTransition | saturated | pitchChanged | powerOn
deriving DecidableEq, Repr

/-- The marks of a pressure line character (R4). -/
inductive CharMark where
  | none | framing | break
deriving DecidableEq, Repr

/-- The modes of the pressure receiver (R5). -/
inductive ReceiverMode where
  | collecting | dropping
deriving DecidableEq, Repr

/-- The source of a sample (R14, R17). -/
inductive SampleSource where
  | float | press | held
deriving DecidableEq, Repr

/-- The source of a minute mean or of a log entry (R28, R32). -/
inductive MeanSource where
  | float | press | mixed | held
deriving DecidableEq, Repr

/-- The way the warning level was reached (R63, R82). -/
inductive LevelWay where
  | table | forced | restored
deriving DecidableEq, Repr

/-- Rate state and flow state (R71, R73). -/
inductive HighNormal where
  | normal | high
deriving DecidableEq, Repr

/-- The phases of a pattern engine (R102). -/
inductive EnginePhase where
  | idle | on | off | pause
deriving DecidableEq, Repr

/-- The meters of the meter rating table (R120). -/
inductive MeterNo where
  | m1 | m2 | m3 | m4
deriving DecidableEq, Repr

/-- The fractions of the depth at which a point is taken: 0, 2, 6 or 8 tenths (R141, R145). -/
inductive Fraction where
  | surface | two | six | eight
deriving DecidableEq, Repr

/-- The direction of a run (R134). -/
inductive Direction where
  | ascending | descending
deriving DecidableEq, Repr

/-- The kinds of a vertical (R140). -/
inductive VerticalKind where
  | startEdge | interior | endEdge
deriving DecidableEq, Repr

/-- The nine run states, in the order in which R133 lists them. -/
inductive RunState where
  | idle | opened | ready | sounding | points | exposing | review | retrieving | finished
deriving DecidableEq, Repr

/-- The eighteen notice kinds, in the order of their codes (R192). -/
inductive NoticeKind where
  | levelEvent | ackDue | acked | ackOverdue | ackWithdrawn | levelForced | retrieve | holderLost | verticalAccepted
  | runClosed | ratingSwitched | logGap | sensorState | clockSet | settingsSaved | settingsDefaulted | retainedLost | restarted
deriving DecidableEq, Repr

/-- The status codes of R189 and R192. -/
inductive Status where
  | ok | okClamped | badFrame | shortFrame | unknownRequest | badLength | badValue | busy | notHolder | heldByOther
  | wrongState | stale | nothingPending | tooFew | outOfOrder | full | incomplete | runOpen | levelTooHigh | invalidTable
deriving DecidableEq, Repr

/-- The reason a bank is not valid (R53). -/
inductive RatingReason where
  | tooFewPoints | stageOrder | dischargeOrder
deriving DecidableEq, Repr

/-! ### Settings -/

/-- Working sensing settings (R18 to R20). -/
structure SensingSettings where
  primary    : Gauge
  pitchNm    : Int
  datumF     : Int
  gain       : Int
  datumP     : Int
  staleS     : Int
  stepMm     : Int
  holdLimitS : Int
  agreeMm    : Int
deriving DecidableEq, Repr

/-- Working log settings (R43). -/
structure LogSettings where
  w               : Nat
  defaultInterval : Interval
deriving DecidableEq, Repr

/-- A point of a rating bank: stage in mm, discharge in L/s (R46). -/
structure RatingPoint where
  h : Int
  q : Int
deriving DecidableEq, Repr

/-- Working warning settings (R64, R79, R80). A pattern number is one of 0 to 7. -/
structure WarningSettings where
  u        : PerStep Int
  h        : PerStep Int
  pu       : PerStep Nat
  pd       : PerStep Nat
  rHi      : Int
  rLo      : Int
  pr       : Nat
  qHi      : Int
  flowHyst : Int
  pq       : Nat
  siren    : PerLevel (Fin 8)
  beacon   : PerLevel (Fin 8)
deriving DecidableEq, Repr

/-- An action entry; an absent next level, pattern or interval is KEEP (R84). -/
structure ActionEntry where
  next     : Option Level
  siren    : Option (Fin 8)
  beacon   : Option (Fin 8)
  interval : Option Interval
  notice   : Bool
  ack      : Bool
  retrieve : Bool
deriving DecidableEq, Repr

/-- One value for each trigger class (R84). -/
structure PerClass (α : Type) where
  sensorLost : α
  sensorBack : α
  stageUp    : α
  stageDown  : α
  rateHigh   : α
  rateNormal : α
  flowHigh   : α
  flowNormal : α
deriving DecidableEq, Repr

/-- Acknowledgment settings of one level: timeout in minutes, acknowledged and overdue siren patterns (R98). -/
structure AckSetting where
  timeoutMin : Nat
  acked      : Fin 8
  overdue    : Fin 8
deriving DecidableEq, Repr

/-- A pattern record (R100). -/
structure Pattern where
  onMs    : Nat
  offMs   : Nat
  burst   : Nat
  pauseMs : Nat
deriving DecidableEq, Repr

/-- The pattern table: records 1 to 7 (R100). -/
structure PatternTable where
  p1 : Pattern
  p2 : Pattern
  p3 : Pattern
  p4 : Pattern
  p5 : Pattern
  p6 : Pattern
  p7 : Pattern
deriving DecidableEq, Repr

/-- A segment of a meter rating; the last segment has no upper bound (R120). -/
structure MeterSegment where
  bound : Option Int
  a     : Int
  bc    : Int
deriving DecidableEq, Repr

/-- A meter record (R120). Its segment count is the length of its list. -/
structure Meter where
  c    : Int
  segs : List MeterSegment
deriving DecidableEq, Repr

/-- The meter rating table (R120). -/
structure MeterTable where
  m1 : Meter
  m2 : Meter
  m3 : Meter
  m4 : Meter
deriving DecidableEq, Repr

/-- Working counter settings (R122). -/
structure CounterSettings where
  traversePitchNm : Int
  soundingPitchNm : Int
  deadMs          : Nat
deriving DecidableEq, Repr

/-- Every stored setting of R193, in its order. The working settings and the stored copy have this one form. -/
structure Settings where
  sensing   : SensingSettings
  log       : LogSettings
  bank      : List RatingPoint
  warning   : WarningSettings
  actions   : PerLevel (PerClass ActionEntry)
  ack       : PerLevel AckSetting
  patterns  : PatternTable
  meters    : MeterTable
  counters  : CounterSettings
  stopLevel : UpStep
  masks     : PerPort (BitVec 18)
deriving DecidableEq, Repr

/-- The settings store: the stored copy and its validity mark (R193). -/
structure Store where
  valid    : Bool
  settings : Settings
deriving DecidableEq, Repr

/-- A save in progress (R194): the saving port, the generation and the number of principal bank points when it was taken,
and whether its request frame was followed by surplus bytes (R178, R180). -/
structure Save where
  port       : Port
  generation : Nat
  points     : Nat
  long       : Bool
deriving DecidableEq, Repr

/-! ### Stage sensing -/

/-- A quadrature counter: count, phase and fault flag with its cause, absent when clear (R2, R112, R115). -/
structure Quad where
  count : Int
  phase : LevelPair
  fault : Option FaultCause
deriving DecidableEq, Repr

/-- A character in the line buffer with its mark (R4, R5). -/
structure LineChar where
  data : Byte
  mark : CharMark
deriving DecidableEq, Repr

/-- The pressure receiver: mode, line buffer, and whether a BREAK character holds off new start bits (R4, R5). -/
structure Receiver where
  mode      : ReceiverMode
  buffer    : List LineChar
  breakHold : Bool
deriving DecidableEq, Repr

/-- A stage brought into the reported range, with its CLAMPED mark. -/
structure Marked where
  mm      : Int
  clamped : Bool
deriving DecidableEq, Repr

/-- The step-filter state of one gauge (R12, R13). -/
structure GaugeFilter where
  rejects : Nat
  reseat  : Bool
deriving DecidableEq, Repr

/-- The marks of a sample (R14). -/
structure SampleMarks where
  reseated : Bool
  clamped  : Bool
  disagree : Bool
deriving DecidableEq, Repr

/-- A stage sample; its value is absent only for a held sample before any acceptance (R14). -/
structure Sample where
  value  : Option Int
  source : SampleSource
  marks  : SampleMarks
deriving DecidableEq, Repr

/-- The current stage record (R17). -/
structure StageRecord where
  sample : Sample
  time   : Nat
deriving DecidableEq, Repr

/-- The state of the stage sensing unit (01_stage_sensing.md). -/
structure Sensing where
  float         : Quad
  receiver      : Receiver
  reading       : Option Int
  readingAge    : Nat
  garbled       : Bool
  lastAccepted  : Option Marked
  floatFilter   : GaugeFilter
  pressFilter   : GaugeFilter
  sensorState   : SensorState
  heldSeconds   : Nat
  disagree      : Bool
  disagreeCount : Nat
  agreeCount    : Nat
  record        : StageRecord
deriving DecidableEq, Repr

/-! ### Stage log and clock -/

/-- The station clock (R24, R25). -/
structure Clock where
  time   : Nat
  unset  : Bool
  setAge : Option Nat
deriving DecidableEq, Repr

/-- The minute accumulator (R27). -/
structure Accumulator where
  sum      : Int
  accFloat : Nat
  accPress : Nat
  held     : Nat
  marks    : SampleMarks
  lastHeld : Option Int
  sensor   : Option SensorState
deriving DecidableEq, Repr

/-- A minute mean record (R28). -/
structure MinuteMean where
  closeTime : Nat
  value     : Option Int
  source    : MeanSource
  marks     : SampleMarks
  heldPart  : Bool
  accFloat  : Nat
  accPress  : Nat
  held      : Nat
deriving DecidableEq, Repr

/-- The marks of a log entry (R32). -/
structure EntryMarks where
  disagree : Bool
  heldPart : Bool
  reseated : Bool
  clamped  : Bool
  timeStep : Bool
  unset    : Bool
  run      : Bool
deriving DecidableEq, Repr

/-- The entry in progress (R33). `saw…` are the sources seen; `heldPart` records a gathered HELD_PART mark alone. -/
structure EntryInProgress where
  span      : Nat
  sum       : Int
  peak      : Option Int
  sawFloat  : Bool
  sawPress  : Bool
  sawMixed  : Bool
  sawHeld   : Bool
  disagree  : Bool
  heldPart  : Bool
  reseated  : Bool
  clamped   : Bool
  unset     : Bool
  runFlag   : Bool
  lastClose : Nat
deriving DecidableEq, Repr

/-- A log entry (R32). -/
structure LogEntry where
  seq       : Nat
  closeTime : Nat
  span      : Nat
  mean      : Int
  peak      : Int
  source    : MeanSource
  marks     : EntryMarks
  level     : Level
deriving DecidableEq, Repr

/-- A port's cursor and gap total (R37). -/
structure Cursor where
  seq : Nat
  gap : Nat
deriving DecidableEq, Repr

/-- The state of the stage log unit (02_stage_log_trend_and_station_clock.md). `closeDue` is the model's own: the sample of a
station minute boundary has arrived and its minute close is not yet taken (log 6). -/
structure LogUnit where
  acc          : Accumulator
  closeDue     : Bool
  ring         : List MinuteMean
  rate         : Option Int
  lastMean     : Option MinuteMean
  entry        : EntryInProgress
  interval     : Interval
  timeStep     : Bool
  entries      : List LogEntry
  nextSeq      : Nat
  cursors      : PerPort Cursor
deriving DecidableEq, Repr

/-! ### Rating -/

/-- The marks of a rated discharge (R47). -/
structure RatedMarks where
  below   : Bool
  beyond  : Bool
  clamped : Bool
deriving DecidableEq, Repr

/-- A rated discharge in L/s with its marks (R47). -/
structure Rated where
  q     : Int
  marks : RatedMarks
deriving DecidableEq, Repr

/-- The first failure of R46 in a bank: its reason, and the index, absent for TOO_FEW_POINTS (R53). -/
structure RatingFailure where
  reason : RatingReason
  index  : Option Nat
deriving DecidableEq, Repr

/-- The state of the rating unit apart from the principal bank, which is a working setting (03_rating_tables.md). -/
structure RatingUnit where
  alternate  : List RatingPoint
  generation : Nat
  claim      : Option Port
  idle       : Nat
deriving DecidableEq, Repr

/-! ### Warning -/

/-- The last level change record (R63). -/
structure LevelChange where
  time : Nat
  way  : LevelWay
deriving DecidableEq, Repr

/-- A raised class with the levels before and after its entry was taken (R76). -/
structure Raised where
  cls    : TriggerClass
  before : Level
  after  : Level
deriving DecidableEq, Repr

/-- A minute close as it is delivered to the warning unit (R31, R65), with the rated discharge the unit reads for it. -/
structure Close where
  mean   : MinuteMean
  rate   : Option Int
  sensor : SensorState
  rated  : Option Rated
deriving DecidableEq, Repr

/-- The evaluation record (R76). -/
structure Evaluation where
  close   : Close
  counted : Bool
  raised  : List Raised
deriving DecidableEq, Repr

/-- The pending acknowledgment record (R93). -/
structure AckRecord where
  level   : Level
  raised  : Nat
  timer   : Nat
  overdue : Nat
  elapsed : Nat
deriving DecidableEq, Repr

/-- The state of the warning unit apart from its settings (04_ and 05_). -/
structure WarningUnit where
  level       : Level
  lastChange  : LevelChange
  up          : Nat
  down        : Nat
  rateState   : HighNormal
  rateHigh    : Nat
  rateLow     : Nat
  flowState   : HighNormal
  flowHigh    : Nat
  flowLow     : Nat
  lostAtClose : Bool
  evaluation  : Option Evaluation
  ack         : Option AckRecord
deriving DecidableEq, Repr

/-! ### Outputs -/

/-- A pattern engine (R102). -/
structure Engine where
  pattern : Fin 8
  phase   : EnginePhase
  timer   : Nat
  count   : Nat
  line    : Bool
deriving DecidableEq, Repr

/-- An output test record (R107). -/
structure OutputTest where
  pattern : Fin 8
  bursts  : Nat
  saved   : Fin 8
  port    : Port
deriving DecidableEq, Repr

/-- One output with its engine and its test. -/
structure OutputState where
  engine : Engine
  test   : Option OutputTest
deriving DecidableEq, Repr

/-- The state of the signal output unit apart from the pattern table (06_siren_beacon_and_retrieve_outputs.md). -/
structure Outputs where
  siren    : OutputState
  beacon   : OutputState
  retrieve : Bool
deriving DecidableEq, Repr

/-! ### Cableway counters -/

/-- A depth read by R116 with its CLAMPED mark and the SOUNDING_FAULT state of that moment (R123). -/
structure DepthAtStart where
  mm      : Int
  clamped : Bool
  fault   : Option FaultCause
deriving DecidableEq, Repr

/-- The record of a RUNNING exposure (R123). `posFault` is the POSITION_FAULT state in the position reading that the run unit takes
at the exposure start (R118); it is kept here for the point to come and is no field of R123 (log 36). -/
structure Exposure where
  meter     : MeterNo
  target    : Nat
  startTime : Nat
  elapsed   : Nat
  pulses    : Nat
  depth     : DepthAtStart
  posFault  : Option FaultCause
deriving DecidableEq, Repr

/-- The marks of a point result (R128). -/
structure PointMarks where
  short     : Bool
  discarded : Bool
  clamped   : Bool
  cut       : Bool
deriving DecidableEq, Repr

/-- A point result (R128). -/
structure PointResult where
  meter     : MeterNo
  startTime : Nat
  depth     : DepthAtStart
  t         : Nat
  pulses    : Nat
  nm        : Option Int
  segment   : Option Nat
  velocity  : Option Int
  marks     : PointMarks
deriving DecidableEq, Repr

/-- The state of the cableway counter unit apart from its settings (07_cableway_counters_and_point_velocity.md).
`now` is the reading of the unit's own millisecond timebase (log 5, log 25). -/
structure Cableway where
  traverse    : Quad
  ipOffset    : Int
  sounding    : Quad
  sMark       : Int
  now         : Nat
  lastClosure : Option Nat
  spin        : Nat
  exposure    : Option Exposure
  lastPoint   : Option PointResult
deriving DecidableEq, Repr

/-- A position reading (R118). -/
structure PositionReading where
  station  : Marked
  depth    : Marked
  posFault : Option FaultCause
  sndFault : Option FaultCause
deriving DecidableEq, Repr

/-! ### Gauging run -/

/-- A stage read from the current stage record with the sensor state that comes with it (R17). -/
structure StageReading where
  value  : Option Int
  sensor : SensorState
deriving DecidableEq, Repr

/-- The source of a vertical's depth; SOUNDED keeps the reading's CLAMPED mark and fault flags (R140). -/
inductive DepthSource where
  | sounded (clamped : Bool) (posFault sndFault : Option FaultCause)
  | altered
  | given
deriving DecidableEq, Repr

/-- The depth of a vertical (R140). -/
structure VerticalDepth where
  mm     : Int
  source : DepthSource
deriving DecidableEq, Repr

/-- A point record: the point result and the fields the run unit adds (R141). `posFault` is the POSITION_FAULT state read at its
exposure start, which the marks of its vertical take with the SOUNDING_FAULT state of the result (R118, R140; log 36). -/
structure Point where
  result    : PointResult
  posFault  : Option FaultCause
  fraction  : Fraction
  stage     : StageReading
  heldStage : Bool
  excluded  : Bool
deriving DecidableEq, Repr

/-- The station of a vertical with the position reading it came from (R140). -/
structure StationReading where
  mm       : Int
  clamped  : Bool
  posFault : Option FaultCause
  sndFault : Option FaultCause
deriving DecidableEq, Repr

/-- The marks of a vertical (R140). -/
structure VerticalMarks where
  positionFault : Bool
  short         : Bool
  clamped       : Bool
  heldStage     : Bool
deriving DecidableEq, Repr

/-- A vertical record (R140). `factor` is present for an edge and `method` for an interior vertical after END_VERTICAL. -/
structure Vertical where
  index    : Nat
  kind     : VerticalKind
  station  : StationReading
  depth    : Option VerticalDepth
  method   : Option Method
  factor   : Option Int
  angle    : Option Int
  points   : List Point
  mean     : Option Int
  stage    : Option StageReading
  partialQ : Option Int
  partialA : Option Int
  marks    : VerticalMarks
deriving DecidableEq, Repr

/-- The states a run can be resumed to, each with the vertical under work it has (R133, R134 "Return state"). -/
inductive Rest where
  | ready
  | sounding (v : Vertical)
  | points (v : Vertical)
  | review (v : Vertical)
deriving DecidableEq, Repr

/-- The state of an open run with its vertical under work. EXPOSING also keeps the fraction of the point to come (R145), and
RETRIEVING keeps the return state (R155). -/
inductive RunPhase where
  | opened
  | rest (r : Rest)
  | exposing (v : Vertical) (f : Fraction)
  | retrieving (r : Rest)
  | finished
deriving DecidableEq, Repr

/-- The run context (R134). Its vertical under work and return state are held in `phase`; `holder` absent is UNHELD. -/
structure RunContext where
  phase        : RunPhase
  number       : Nat
  holder       : Option Port
  lastRequest  : Nat
  quiet        : Nat
  meter        : MeterNo
  target       : Nat
  coeff        : Int
  direction    : Option Direction
  openTime     : Nat
  stageAtOpen  : StageReading
  retrieveMark : Bool
  qSum         : Int
  aSum         : Int
  heldStage    : Bool
deriving DecidableEq, Repr

/-- The marks of a run result (R170). -/
structure ResultMarks where
  abandoned : Bool
  retrieved : Bool
  heldStage : Bool
  below     : Bool
  beyond    : Bool
  clamped   : Bool
deriving DecidableEq, Repr

/-- A run result (R170). `finalised` is the number of finalised verticals, given for an abandoned run. -/
structure RunResult where
  number       : Nat
  openTime     : Nat
  closeTime    : Nat
  meter        : MeterNo
  verticals    : Nat
  finalised    : Option Nat
  q            : Int
  area         : Int
  meanVelocity : Option Int
  stageAtOpen  : StageReading
  stageAtClose : Option StageReading
  gaugeHeight  : Option Int
  ratedQ       : Option Int
  generation   : Option Nat
  shift        : Option Int
  marks        : ResultMarks
deriving DecidableEq, Repr

/-- The state of the gauging run unit apart from its setting (08_ and 09_). The run state is IDLE exactly while the context is
absent (R133, R134). -/
structure RunUnit where
  ctx       : Option RunContext
  verticals : List Vertical
  counter   : Nat
  listTotal : Option Int
  results   : List RunResult
deriving DecidableEq, Repr

/-! ### Ports -/

/-- A parameter of a notice, by what it names (R183, R192). -/
inductive Param where
  | num (n : Int)
  | flag (b : Bool)
  | port (p : Port)
  | level (l : Level)
  | cls (c : TriggerClass)
  | sensor (s : SensorState)
  | run (s : RunState)
  | lostEntered | lostLeft | disagreeSet | disagreeCleared
  | closed | abandoned
  | powerOn | restart
deriving DecidableEq, Repr

/-- A notice record (R183). -/
structure Notice where
  kind      : NoticeKind
  time      : Nat
  p1        : Option Param
  p2        : Option Param
  p3        : Option Param
  lostAfter : Bool
deriving DecidableEq, Repr

/-- What GET_PORT_STATUS tells of one port (R187). -/
structure PortReport where
  slotFull    : Bool
  inProgress  : Option Byte
  queued      : Nat
  anyLost     : Bool
  mask        : BitVec 18
  lastRequest : Option Nat
  holdsRun    : Bool
  holdsRating : Bool
deriving DecidableEq, Repr

/-- What READ_POSITION tells of a RUNNING exposure (R131). -/
structure ExposureReport where
  meter     : MeterNo
  target    : Nat
  startTime : Nat
  elapsed   : Nat
  pulses    : Nat
deriving DecidableEq, Repr

/-- What READ_POSITION tells (R131). -/
structure PositionReport where
  station   : Marked
  traverse  : Int
  ipOffset  : Int
  posFault  : Option FaultCause
  depth     : Marked
  sounding  : Int
  sMark     : Int
  sndFault  : Option FaultCause
  spin      : Nat
  exposure  : Option ExposureReport
  lastPoint : Option PointResult
deriving DecidableEq, Repr

/-- What GET_STAGE tells (R22). -/
structure StageReport where
  record        : StageRecord
  sensorState   : SensorState
  heldSeconds   : Nat
  floatStage    : Marked
  floatCount    : Int
  encoderFault  : Option FaultCause
  pressStage    : Option Marked
  reading       : Option Int
  readingAge    : Nat
  garbled       : Bool
  lastAccepted  : Option Marked
  floatFilter   : GaugeFilter
  pressFilter   : GaugeFilter
  disagree      : Bool
  disagreeCount : Nat
  agreeCount    : Nat
deriving DecidableEq, Repr

/-- What GET_LOG_STATUS tells (R41). -/
structure LogStatus where
  oldest          : Nat
  newest          : Nat
  next            : Nat
  held            : Nat
  cursor          : Nat
  unread          : Nat
  gap             : Nat
  interval        : Interval
  defaultInterval : Interval
  span            : Nat
  peak            : Option Int
  marks           : EntryMarks
  closesAt        : Nat
  timeStep        : Bool
deriving DecidableEq, Repr

/-- What GET_TREND tells (R42). -/
structure TrendReport where
  w        : Nat
  held     : Nat
  rate     : Option Int
  newest   : Option MinuteMean
  mW       : Option Int
  lastMean : Option MinuteMean
  accFloat : Nat
  accPress : Nat
  accHeld  : Nat
deriving DecidableEq, Repr

/-- What GET_RATING_STATUS tells (R59). -/
structure RatingStatus where
  generation     : Nat
  principalCount : Nat
  firstPoint     : Option RatingPoint
  lastPoint      : Option RatingPoint
  alternateCount : Nat
  failure        : Option RatingFailure
  claim          : Option Port
  idle           : Option Nat
deriving DecidableEq, Repr

/-- What GET_WARNING tells of a stage count: the count with the threshold and persistence it counts toward (R81). -/
structure CountReport where
  count       : Nat
  threshold   : Int
  persistence : Nat
deriving DecidableEq, Repr

/-- What GET_WARNING tells (R81). -/
structure WarningReport where
  level       : Level
  lastChange  : LevelChange
  up          : Option CountReport
  down        : Option CountReport
  rateState   : HighNormal
  rateHigh    : Nat
  rateLow     : Nat
  flowState   : HighNormal
  flowHigh    : Nat
  flowLow     : Nat
  flowThreshold : Int
  lostAtClose : Bool
  ack         : Option AckRecord
  evaluation  : Option Evaluation
deriving DecidableEq, Repr

/-- What GET_OUTPUTS tells of one output: the timer is absent in IDLE (R110). -/
structure OutputReport where
  pattern : Fin 8
  phase   : EnginePhase
  msLeft  : Option Nat
  count   : Nat
  line    : Bool
  test    : Option OutputTest
deriving DecidableEq, Repr

/-- What GET_RUN tells (R158). -/
structure RunReport where
  state       : RunState
  ctx         : Option RunContext
  work        : Option Vertical
  complete    : Option Bool
  listCount   : Nat
  lastVertical : Option (Nat × Int)
  counter     : Nat
  stopLevel   : UpStep
deriving DecidableEq, Repr

/-- The fields a response carries, by what its entry gives. -/
inductive Body where
  /-- No field: every frame-level answer, and every answer whose entry gives no field (log 18). -/
  | empty
  /-- READ_NOTICE (R184). -/
  | notice (left : Nat) (n : Option Notice)
  /-- GET_PORT_STATUS (R187). -/
  | portStatus (self : Port) (ports : PerPort PortReport)
  /-- SAVE_SETTINGS (R194). -/
  | saved (generation points : Nat)
  /-- GET_STAGE (R22). -/
  | stage (r : StageReport)
  /-- SET_FLOAT_STAGE and SET_PRESS_STAGE: the new datum and the stage it gives, with its CLAMPED mark (R3, R10, R18, R19). -/
  | fitted (datum : Int) (stage : Marked)
  /-- GET_SENSING (R20). -/
  | sensing (s : SensingSettings)
  /-- GET_CLOCK (R25). -/
  | clock (c : Clock)
  /-- SET_CLOCK: the old time and t (R26). -/
  | clockSet (old new : Nat)
  /-- READ_LOG (R38). -/
  | logEntries (entries : List LogEntry) (cursor unread gap : Nat)
  /-- ADVANCE_LOG (R39). -/
  | advanced (cursor unread : Nat)
  /-- SEEK_LOG (R40). -/
  | sought (cursor oldest newest unread : Nat)
  /-- GET_LOG_STATUS (R41). -/
  | logStatus (s : LogStatus)
  /-- GET_TREND (R42). -/
  | trend (t : TrendReport)
  /-- GET_LOG_SETTINGS (R43). -/
  | logSettings (s : LogSettings)
  /-- RATING_QUERY (R49). -/
  | rated (r : Rated) (generation : Nat)
  /-- RATING_BEGIN: the generation and the number of points copied (R52). -/
  | ratingBegun (generation points : Nat)
  /-- HELD_BY_OTHER of RATING_BEGIN and TAKE_RUN: the holder and its idle timer or quiet count (R52, R137). -/
  | heldBy (holder : Port) (seconds : Nat)
  /-- RATING_POINT and RATING_TRUNCATE: the number of points, and the first failure when not valid (R53, R54). -/
  | ratingEdited (points : Nat) (failure : Option RatingFailure)
  /-- INVALID_TABLE of RATING_COMMIT (R55). -/
  | ratingInvalid (failure : Option RatingFailure)
  /-- RATING_COMMIT (R55). -/
  | ratingCommitted (generation : Nat)
  /-- READ_RATING (R58). -/
  | ratingPoints (count generation : Nat) (points : List (Nat × RatingPoint))
  /-- GET_RATING_STATUS (R59). -/
  | ratingStatus (s : RatingStatus)
  /-- GET_WARNING (R81). -/
  | warning (w : WarningReport)
  /-- SET_WARNING_SETTINGS (R79). -/
  | warningSet (s : WarningSettings)
  /-- GET_WARNING_SETTINGS, with the low threshold of flow (R79). -/
  | warningSettings (s : WarningSettings) (lowFlow : Int)
  /-- ACK taken: the level, raised time and overdue count of the cleared record (R94). -/
  | acked (level : Level) (raised overdue : Nat)
  /-- STALE: the level of the pending record (R94). -/
  | stale (level : Level)
  /-- SET_ACTION and GET_ACTION (R92). -/
  | action (e : ActionEntry)
  /-- SET_ACK_SETTINGS and GET_ACK_SETTINGS (R98). -/
  | ackSettings (s : PerLevel AckSetting)
  /-- GET_OUTPUTS (R110). -/
  | outputs (siren beacon : OutputReport) (retrieve : Bool)
  /-- OUTPUT_TEST: the saved pattern and the duration in ms (R107). -/
  | testStarted (saved : Fin 8) (durationMs : Nat)
  /-- SET_PATTERN and GET_PATTERN (R101). -/
  | pattern (r : Pattern)
  /-- READ_POSITION (R131). -/
  | position (r : PositionReport)
  /-- SET_INITIAL_POINT: the new ip_offset and the station it gives, with its CLAMPED mark (R113, R114). -/
  | initialPoint (ipOffset : Int) (station : Marked)
  /-- SURFACE_MARK (R117). -/
  | surfaceMark (sMark : Int)
  /-- SET_METER and GET_METER (R121). -/
  | meter (m : Meter)
  /-- GET_COUNTER_SETTINGS (R122). -/
  | counterSettings (s : CounterSettings)
  /-- GET_RUN (R158). -/
  | run (r : RunReport)
  /-- OPEN_RUN: the run number, the stage at open and the values taken (R139). -/
  | runOpened (number : Nat) (stage : StageReading) (meter : MeterNo) (target : Nat) (coeff : Int)
  /-- MARK_EDGE START and BEGIN_VERTICAL: the station captured with its marks (R142, R143). -/
  | station (r : StationReading)
  /-- OUT_OF_ORDER: the station read with its CLAMPED mark, and the last station (R113, R143). -/
  | outOfOrder (read : Marked) (last : Int)
  /-- MARK_BED: the depth (R144). -/
  | depth (d : VerticalDepth)
  /-- START_POINT: the start time and T (R145). -/
  | pointStarted (time target : Nat)
  /-- STOP_POINT: the point record (R146). -/
  | point (q : Point)
  /-- END_VERTICAL and ALTER: the vertical under work and whether it is complete (R147, R148). -/
  | vertical (v : Vertical) (complete : Bool)
  /-- INCOMPLETE: the fractions missing (R150). -/
  | missing (fractions : List Fraction)
  /-- ACCEPT and MARK_EDGE END: the vertical accepted and the finalised sums after the act (R150, R152). -/
  | accepted (v : Vertical) (qSum aSum : Int)
  /-- CLOSE_RUN (R153). -/
  | result (r : RunResult)
  /-- RESUME_RUN: the state resumed (R156). -/
  | resumed (s : RunState)
  /-- GET_RUN_SETTINGS (R157). -/
  | runSettings (stopLevel : UpStep)
  /-- READ_RESULT: the result and the number the ring holds (R172). -/
  | resultRead (r : RunResult) (held : Nat)
  /-- READ_VERTICAL without a point index: the record without its points, their number, whether it is finalised, and its
  share (R173). -/
  | verticalRead (v : Vertical) (points : Nat) (finalised : Bool) (share : Option Int)
  /-- READ_VERTICAL with a point index: the point, and whether it is the used point of its fraction (R173). -/
  | pointRead (q : Point) (used : Bool)
deriving DecidableEq, Repr

/-- A response: its status, its two marks, the code it echoes and its fields (R177). -/
structure Response where
  status   : Status
  replaced : Bool
  long     : Bool
  echo     : Byte
  body     : Body
deriving DecidableEq, Repr

/-- A frame the part shifts out (R175, R177). -/
inductive Frame where
  | null
  | pending (echo : Byte)
  | response (r : Response)
deriving DecidableEq, Repr

/-- An exchange under way: the outgoing frame fixed at its beginning, and the receive shifter (R175). -/
structure Exchange where
  outgoing : Frame
  shifter  : List Byte
deriving DecidableEq, Repr

/-- The state of one port apart from its notice mask, which is a working setting (10_station_ports.md). `shiftedOut` is the model's
own: the bytes the master received in the port's latest ended exchange (R175, log 37). -/
structure PortState where
  exchange    : Option Exchange
  slot        : Option Response
  inProgress  : Option Byte
  queue       : List Notice
  lastRequest : Option Nat
  shiftedOut  : List Byte
deriving DecidableEq, Repr

end Sys2Proof.Machine
end

