-- ==== Sys2Proof/Config.lean ====
section
/-! DEFINITION. What the spec leaves free (opaque constants, no body) and the fixed sizes it states. -/

namespace Sys2Proof.Config

open Sys2Proof Sys2Proof.Machine

/-- The payload lengths that the fields of a request allow, by its code (R178, check 8). The spec gives no layout of the fields of a
request but the notice mask, so for every other request that carries fields this is a free value (log 3). -/
opaque lengthAllowed : Byte → Nat → Bool

/-- The value that a payload of an allowed length carries in a field of a request, by the code and the number of the field. The spec
gives no byte layout of request payloads but the notice mask, so this is a free value (log 3). -/
opaque fieldValue : Byte → List Byte → Nat → Int

/-- Whether a payload of an allowed length carries an optional field of a request, by the code and the number of the field: a free
value (log 3). -/
opaque fieldPresent : Byte → List Byte → Nat → Bool

/-- The payload bytes of a response body. The spec gives the layout of READ_NOTICE's payload and of a notice mask alone (R192), so for
every other body that carries fields this is a free value (log 4). -/
opaque payloadLayout : Body → List Byte

/-- The payload bytes of GET_PORT_STATUS before, between and after its three notice masks, numbered 0 to 3: a free value (log 4). -/
opaque portStatusPart : Port → PerPort PortReport → Nat → List Byte

/-- Most payload bytes a frame may have (R176). -/
def maxPayload : Nat := 56

/-- Payload bytes of the GET_STAGE response: 28 bytes less status, code echo, length and check (10_station_ports.md, worked
sequence, exchange 1). -/
def stagePayload : Nat := 23

/-- Most records a notice queue holds (R183). -/
def queueSize : Nat := 16

/-- Most entries the log memory holds (R36). -/
def logSize : Nat := 8192

/-- Most means the trend ring holds (R29). -/
def ringSize : Nat := 61

/-- Most results the results ring holds (R171). -/
def resultsSize : Nat := 8

/-- Most characters the line buffer holds (R5). -/
def lineSize : Nat := 16

/-- Most points a bank holds (R46). -/
def bankSize : Nat := 32

/-- Seconds loaded into the rating idle timer (R51). -/
def idleSeconds : Nat := 600

/-- Quiet seconds before another port may take the run (R137). -/
def quietSeconds : Nat := 120

/-- Milliseconds below which a stopped or cut point is DISCARDED (R125, R129). -/
def shortestMs : Nat := 15000

end Sys2Proof.Config
end

