-- ==== Sys2Proof/Machine/Factory.lean ====
section
/-! DEFINITION. The factory defaults of every stored setting, each from the entry that gives it, and the values each block
starts with at power-on. -/

namespace Sys2Proof.Machine

open Sys2Proof

/-- Factory sensing settings (R20). -/
def factorySensing : SensingSettings :=
  { primary := .float, pitchNm := 1000000, datumF := 0, gain := 1000, datumP := 0, staleS := 15, stepMm := 300,
    holdLimitS := 300, agreeMm := 30 }

/-- Factory log settings (R43). -/
def factoryLog : LogSettings := { w := 15, defaultInterval := .m15 }

/-- The factory bank (R61). -/
def factoryBank : List RatingPoint := [⟨0, 0⟩, ⟨10000, 0⟩]

/-- Factory warning settings (R79) with the level patterns of R80. -/
def factoryWarning : WarningSettings :=
  { u := ⟨1500, 2200, 3000⟩, h := ⟨100, 150, 200⟩, pu := ⟨3, 3, 2⟩, pd := ⟨15, 15, 15⟩, rHi := 300, rLo := 100, pr := 3,
    qHi := 20000, flowHyst := 100, pq := 3, siren := ⟨0, 0, 2, 3⟩, beacon := ⟨0, 1, 2, 3⟩ }

/-- The values every entry of the factory action table holds but for the exceptions of R91. -/
def commonAction : ActionEntry :=
  { next := none, siren := none, beacon := none, interval := none, notice := true, ack := false, retrieve := false }

/-- An up-step of the factory action table: patterns, interval, LEVEL_EVENT and a required acknowledgment (R91). -/
def upStepAction (next : Level) (siren beacon : Fin 8) (interval : Interval) (retrieve : Bool) : ActionEntry :=
  { next := some next, siren := some siren, beacon := some beacon, interval := some interval, notice := true, ack := true,
    retrieve := retrieve }

/-- A down-step of the factory action table (R91). -/
def downStepAction (next : Level) (siren beacon : Fin 8) (interval : Interval) : ActionEntry :=
  { next := some next, siren := some siren, beacon := some beacon, interval := some interval, notice := true, ack := false,
    retrieve := false }

/-- An entry of R91 that only sets the log interval. -/
def intervalAction (interval : Interval) : ActionEntry := { commonAction with interval := some interval }

/-- An entry of R91 that only retrieves. -/
def retrieveAction : ActionEntry := { commonAction with retrieve := true }

/-- The two entries of R91 that do nothing and post nothing. -/
def silentAction : ActionEntry := { commonAction with notice := false }

/-- A level whose eight entries hold the common values (R91). -/
def commonLevel : PerClass ActionEntry :=
  { sensorLost := commonAction, sensorBack := commonAction, stageUp := commonAction, stageDown := commonAction,
    rateHigh := commonAction, rateNormal := commonAction, flowHigh := commonAction, flowNormal := commonAction }

/-- The factory action table (R91). -/
def factoryActions : PerLevel (PerClass ActionEntry) :=
  { l0 := { commonLevel with
      stageUp := upStepAction .watch 0 1 .m5 false
      rateHigh := upStepAction .watch 0 1 .m5 false
      flowHigh := upStepAction .watch 0 1 .m5 false
      stageDown := silentAction }
    l1 := { commonLevel with
      stageUp := upStepAction .warning 2 2 .m2 false
      flowHigh := upStepAction .warning 2 2 .m2 false
      stageDown := downStepAction .normal 0 0 .m15
      rateHigh := intervalAction .m2
      rateNormal := intervalAction .m5 }
    l2 := { commonLevel with
      stageUp := upStepAction .danger 3 3 .m1 true
      stageDown := downStepAction .watch 0 1 .m5
      rateHigh := intervalAction .m1
      rateNormal := intervalAction .m2
      sensorLost := retrieveAction }
    l3 := { commonLevel with
      stageDown := downStepAction .warning 2 2 .m2
      sensorLost := retrieveAction
      stageUp := silentAction } }

/-- Factory acknowledgment settings (R98). -/
def factoryAck : PerLevel AckSetting :=
  { l0 := ⟨30, 0, 0⟩, l1 := ⟨15, 0, 5⟩, l2 := ⟨10, 0, 5⟩, l3 := ⟨5, 4, 6⟩ }

/-- The factory pattern table (R100). -/
def factoryPatterns : PatternTable :=
  { p1 := ⟨500, 1500, 0, 0⟩, p2 := ⟨1000, 1000, 5, 20000⟩, p3 := ⟨2000, 500, 0, 0⟩, p4 := ⟨2000, 2000, 3, 60000⟩,
    p5 := ⟨300, 300, 10, 10000⟩, p6 := ⟨10000, 100, 0, 0⟩, p7 := ⟨200, 800, 3, 5000⟩ }

/-- The factory meter rating table (R120). -/
def factoryMeters : MeterTable :=
  { m1 := ⟨1, [⟨some 1000, 9, 68500⟩, ⟨none, 4, 69000⟩]⟩, m2 := ⟨5, [⟨none, 6, 30500⟩]⟩,
    m3 := ⟨1, [⟨none, 0, 100000⟩]⟩, m4 := ⟨1, [⟨none, 0, 100000⟩]⟩ }

/-- Factory counter settings (R122). -/
def factoryCounters : CounterSettings := { traversePitchNm := 1000000, soundingPitchNm := 1000000, deadMs := 20 }

/-- Every factory default (R193). The factory mask of every port admits all eighteen kinds (R186). -/
def factorySettings : Settings :=
  { sensing := factorySensing, log := factoryLog, bank := factoryBank, warning := factoryWarning, actions := factoryActions,
    ack := factoryAck, patterns := factoryPatterns, meters := factoryMeters, counters := factoryCounters, stopLevel := .k3,
    masks := ⟨BitVec.allOnes 18, BitVec.allOnes 18, BitVec.allOnes 18⟩ }

/-! ### State after power-on -/

/-- A sensor pair with both channels low. -/
def lowPair : LevelPair := ⟨false, false⟩

/-- A counter after power-on: count 0, fault set with cause POWER_ON, the phase present on the channels (R23, R132). -/
def startQuad (pair : LevelPair) : Quad := ⟨0, pair, some .powerOn⟩

/-- No mark of a sample. -/
def noSampleMarks : SampleMarks := ⟨false, false, false⟩

/-- The current stage record after power-on or restart (R23). -/
def startRecord (time : Nat) : StageRecord := ⟨⟨none, .held, noSampleMarks⟩, time⟩

/-- The stage sensing unit after power-on (R23). -/
def startSensing (float : Quad) (time : Nat) : Sensing :=
  { float := float, receiver := ⟨.collecting, [], false⟩, reading := none, readingAge := 0, garbled := false,
    lastAccepted := none, floatFilter := ⟨0, false⟩, pressFilter := ⟨0, false⟩, sensorState := .holding, heldSeconds := 0,
    disagree := false, disagreeCount := 0, agreeCount := 0, record := startRecord time }

/-- An empty minute accumulator (R28, R44). -/
def emptyAccumulator : Accumulator := ⟨0, 0, 0, 0, noSampleMarks, none, none⟩

/-- An empty entry in progress whose run flag is as given (R33). -/
def emptyEntry (runFlag : Bool) : EntryInProgress :=
  { span := 0, sum := 0, peak := none, sawFloat := false, sawPress := false, sawMixed := false, sawHeld := false,
    disagree := false, heldPart := false, reseated := false, clamped := false, unset := false, runFlag := runFlag,
    lastClose := 0 }

/-- The warning unit after power-on at a level (R82). -/
def startWarning (level : Level) (time : Nat) : WarningUnit :=
  { level := level, lastChange := ⟨time, .restored⟩, up := 0, down := 0, rateState := .normal, rateHigh := 0, rateLow := 0,
    flowState := .normal, flowHigh := 0, flowLow := 0, lostAtClose := false, evaluation := none, ack := none }

/-- An engine in IDLE with pattern 0 (R103, R111). -/
def idleEngine : Engine := ⟨0, .idle, 0, 0, false⟩

/-- The record of RESTARTED at power-on (R197). -/
def restartedAtPowerOn (level : Level) (time : Nat) : Notice :=
  ⟨.restarted, time, some (.level level), some .powerOn, none, false⟩

/-- A notice without parameters. -/
def bareNotice (kind : NoticeKind) (time : Nat) : Notice := ⟨kind, time, none, none, none, false⟩

/-- A port after the first power-on: its queue holds the three start-up notices (R190, R197). -/
def resetPort : PortState :=
  { exchange := none, slot := none, inProgress := none,
    queue := [bareNotice .settingsDefaulted 0, bareNotice .retainedLost 0, restartedAtPowerOn .normal 0],
    lastRequest := none, shiftedOut := [] }

/-- The clock when retained memory is cleared (R25, R196). -/
def clearedClock : Clock := ⟨0, true, none⟩

/-- The cursors and gap totals when retained memory is cleared (R196). -/
def clearedCursors : PerPort Cursor := ⟨⟨1, 0⟩, ⟨1, 0⟩, ⟨1, 0⟩⟩

/-- The stage log unit after power-on or restart, with its retained items as given (R44). No close is due: one that was due and not
yet taken is dropped with the minute in progress (DESIGN CHOICE, log 40). -/
def startLog (interval : Interval) (entries : List LogEntry) (nextSeq : Nat) (cursors : PerPort Cursor) : LogUnit :=
  { acc := emptyAccumulator, closeDue := false, ring := [], rate := none, lastMean := none, entry := emptyEntry false,
    interval := interval, timeStep := false, entries := entries, nextSeq := nextSeq, cursors := cursors }

/-- The rating unit after power-on or restart (R61). -/
def startRating (generation : Nat) : RatingUnit := ⟨[], generation, none, 0⟩

/-- Both engines in IDLE, no test, RETRIEVE released (R111). -/
def idleOutputs : Outputs := ⟨⟨idleEngine, none⟩, ⟨idleEngine, none⟩, false⟩

/-- The cableway counter unit after power-on (R132). -/
def startCableway (traverse sounding : LevelPair) : Cableway :=
  { traverse := startQuad traverse, ipOffset := 0, sounding := startQuad sounding, sMark := 0, now := 0,
    lastClosure := none, spin := 0, exposure := none, lastPoint := none }

/-- The gauging run unit after power-on or restart (R160, R174). -/
def startRun (counter : Nat) (results : List RunResult) : RunUnit := ⟨none, [], counter, none, results⟩

end Sys2Proof.Machine
end

