-- ==== Sys2Proof/Machine/State.lean ====
section
/-! DEFINITION. The state of the GHV-340, the reasons a step can stop (none arises), and the state after reset. -/

namespace Sys2Proof.Machine

open Sys2Proof

/-- The reasons for which the part stops. The spec has no event that stops the part: a fault of a sensor is a flag and a
refused request is answered with a status. The type has no constructor, so no command can answer a fault (log 34). -/
inductive Fault where
deriving DecidableEq, Repr

/-- The reasons for which the model gives a command no meaning. -/
inductive Refusal where
  /-- A command whose arm of `exec` is not modelled. No arm raises it: every row has its meaning. Safe. -/
  | notModelled (mnemonic : String)
deriving DecidableEq, Repr

/-- Everything the spec gives the part, and the queue of commands that wait. INVENTORY.md lists every piece with its rule. -/
structure State where
  /-- Main power is present (R24, R195, R197). -/
  powered  : Bool
  /-- The working settings (R193). -/
  cfg      : Settings
  /-- The settings store (R193). -/
  store    : Store
  /-- The save in progress, or absent (R194). -/
  save     : Option Save
  /-- The contents of retained memory agree with its integrity mark (R196). -/
  retainedMark : Bool
  /-- The station clock (R24, R25). -/
  clock    : Clock
  /-- The stage sensing unit. -/
  sensing  : Sensing
  /-- The stage log unit. -/
  log      : LogUnit
  /-- The rating unit. -/
  rating   : RatingUnit
  /-- The warning unit. -/
  warning  : WarningUnit
  /-- The signal output unit. -/
  outputs  : Outputs
  /-- The cableway counter unit. -/
  cableway : Cableway
  /-- The gauging run unit. -/
  run      : RunUnit
  /-- The three ports. -/
  ports    : PerPort PortState
  /-- The commands that wait, first in, first out (log 1). -/
  pending  : List Instr
deriving DecidableEq, Repr

/-- The part right after its first power-on: the settings store INVALID and retained memory cleared, so that every value is the
one its chapter gives for a defaulted power-on with cleared retained memory (R23, R44, R61, R82, R99, R111, R132, R160, R174,
R190, R193, R196, R197; log 11). -/
def State.reset : State :=
  { powered := true
    cfg := factorySettings
    store := ⟨false, factorySettings⟩
    save := none
    retainedMark := true
    clock := clearedClock
    sensing := startSensing (startQuad lowPair) 0
    log := startLog factoryLog.defaultInterval [] 1 clearedCursors
    rating := startRating 0
    warning := startWarning .normal 0
    outputs := idleOutputs
    cableway := startCableway lowPair lowPair
    run := startRun 0 []
    ports := ⟨resetPort, resetPort, resetPort⟩
    pending := [] }

end Sys2Proof.Machine
end

