-- ==== Sys2Proof/Machine/Ops.lean ====
section
/-! DEFINITION. The operations every block uses: rounded division, clamping, tables indexed by port, level, class or number,
posting a notice, and placing a response. -/

namespace Sys2Proof

/-- The value of one port. -/
def PerPort.get {α : Type} (t : PerPort α) : Port → α
  | .a => t.a
  | .b => t.b
  | .c => t.c

/-- The table with the value of one port replaced. -/
def PerPort.set {α : Type} (t : PerPort α) (p : Port) (v : α) : PerPort α :=
  match p with
  | .a => { t with a := v }
  | .b => { t with b := v }
  | .c => { t with c := v }

/-- The table with a function applied at every port. -/
def PerPort.map {α β : Type} (t : PerPort α) (f : α → β) : PerPort β := ⟨f t.a, f t.b, f t.c⟩

/-- The value of step k. -/
def PerStep.get {α : Type} (t : PerStep α) : Machine.UpStep → α
  | .k1 => t.k1
  | .k2 => t.k2
  | .k3 => t.k3

/-- The value of one level. -/
def PerLevel.get {α : Type} (t : PerLevel α) : Machine.Level → α
  | .normal => t.l0
  | .watch => t.l1
  | .warning => t.l2
  | .danger => t.l3

/-- The table with the value of one level replaced. -/
def PerLevel.set {α : Type} (t : PerLevel α) (l : Machine.Level) (v : α) : PerLevel α :=
  match l with
  | .normal => { t with l0 := v }
  | .watch => { t with l1 := v }
  | .warning => { t with l2 := v }
  | .danger => { t with l3 := v }

end Sys2Proof

namespace Sys2Proof.Machine

open Sys2Proof

/-! ### Arithmetic -/

/-- The quotient rounded to the nearest integer, ties away from zero (R1), for a positive divisor. -/
def roundDiv (n d : Int) : Int :=
  if 0 ≤ n then (2 * n + d) / (2 * d) else -((2 * (-n) + d) / (2 * d))

/-- A value brought to the nearest end of a range (00_scope.md, "Clamped"). -/
def clamp (lo hi x : Int) : Int := max lo (min hi x)

/-- A value brought into a range, with the mark that it was outside (00_scope.md, "Clamped"). -/
def clampMarked (lo hi x : Int) : Marked := ⟨clamp lo hi x, decide (x < lo ∨ hi < x)⟩

/-- A stage brought into the reported range -9,999 to 99,999 mm (00_scope.md, "Stage range"). -/
def clampStage (x : Int) : Marked := clampMarked (-9999) 99999 x

/-- A datum or offset brought into -2,000,000,000 to 2,000,000,000 mm (R18, R114, R117). -/
def clampDatum (x : Int) : Marked := clampMarked (-2000000000) 2000000000 x

/-- A count raised by n that stops at a limit. -/
def raiseTo (limit count n : Nat) : Nat := min limit (count + n)

/-- A counter count in mm: the rounded quotient of count × pitch by 1,000,000 (R3, R113, R116). -/
def scaled (count pitchNm : Int) : Int := roundDiv (count * pitchNm) 1000000

/-! ### Tables -/

/-- The value of one trigger class. -/
def PerClass.get {α : Type} (t : PerClass α) : TriggerClass → α
  | .sensorLost => t.sensorLost
  | .sensorBack => t.sensorBack
  | .stageUp => t.stageUp
  | .stageDown => t.stageDown
  | .rateHigh => t.rateHigh
  | .rateNormal => t.rateNormal
  | .flowHigh => t.flowHigh
  | .flowNormal => t.flowNormal

/-- The table with the value of one trigger class replaced. -/
def PerClass.set {α : Type} (t : PerClass α) (c : TriggerClass) (v : α) : PerClass α :=
  match c with
  | .sensorLost => { t with sensorLost := v }
  | .sensorBack => { t with sensorBack := v }
  | .stageUp => { t with stageUp := v }
  | .stageDown => { t with stageDown := v }
  | .rateHigh => { t with rateHigh := v }
  | .rateNormal => { t with rateNormal := v }
  | .flowHigh => { t with flowHigh := v }
  | .flowNormal => { t with flowNormal := v }

/-- The pattern record of a number 1 to 7; pattern 0 is not in the table and has none (R100). -/
def PatternTable.get? (t : PatternTable) (n : Nat) : Option Pattern :=
  match n with
  | 1 => some t.p1
  | 2 => some t.p2
  | 3 => some t.p3
  | 4 => some t.p4
  | 5 => some t.p5
  | 6 => some t.p6
  | 7 => some t.p7
  | _ => none

/-- The pattern table with one record replaced (R101). -/
def PatternTable.set (t : PatternTable) (n : Nat) (r : Pattern) : PatternTable :=
  match n with
  | 1 => { t with p1 := r }
  | 2 => { t with p2 := r }
  | 3 => { t with p3 := r }
  | 4 => { t with p4 := r }
  | 5 => { t with p5 := r }
  | 6 => { t with p6 := r }
  | 7 => { t with p7 := r }
  | _ => t

/-- The meter record of a meter (R120). -/
def MeterTable.get (t : MeterTable) : MeterNo → Meter
  | .m1 => t.m1
  | .m2 => t.m2
  | .m3 => t.m3
  | .m4 => t.m4

/-- The meter table with one record replaced (R121). -/
def MeterTable.set (t : MeterTable) (n : MeterNo) (r : Meter) : MeterTable :=
  match n with
  | .m1 => { t with m1 := r }
  | .m2 => { t with m2 := r }
  | .m3 => { t with m3 := r }
  | .m4 => { t with m4 := r }

/-! ### Numbers of named values -/

/-- The number of a level. -/
def Level.toNat : Level → Nat
  | .normal => 0
  | .watch => 1
  | .warning => 2
  | .danger => 3

/-- The number of a step k. -/
def UpStep.toNat : UpStep → Nat
  | .k1 => 1
  | .k2 => 2
  | .k3 => 3

/-- The step that leads up from a level; DANGER has none (R68). -/
def Level.stepUp : Level → Option UpStep
  | .normal => some .k1
  | .watch => some .k2
  | .warning => some .k3
  | .danger => none

/-- The step that led up to a level, by which it is left downward; NORMAL has none (R69). -/
def Level.stepDown : Level → Option UpStep
  | .normal => none
  | .watch => some .k1
  | .warning => some .k2
  | .danger => some .k3

/-- The minutes of a log interval (R32). -/
def Interval.minutes : Interval → Nat
  | .m1 => 1
  | .m2 => 2
  | .m5 => 5
  | .m10 => 10
  | .m15 => 15
  | .m30 => 30
  | .m60 => 60

/-- The seconds of a log interval (R34). -/
def Interval.seconds (i : Interval) : Nat := i.minutes * 60

/-- The code of a notice kind (R192). -/
def NoticeKind.code : NoticeKind → Nat
  | .levelEvent => 1
  | .ackDue => 2
  | .acked => 3
  | .ackOverdue => 4
  | .ackWithdrawn => 5
  | .levelForced => 6
  | .retrieve => 7
  | .holderLost => 8
  | .verticalAccepted => 9
  | .runClosed => 10
  | .ratingSwitched => 11
  | .logGap => 12
  | .sensorState => 13
  | .clockSet => 14
  | .settingsSaved => 15
  | .settingsDefaulted => 16
  | .retainedLost => 17
  | .restarted => 18

/-! ### Power -/

/-- What an event does under main power. Without main power the part takes nothing but counts of its clock (log 9). -/
def State.whenPowered (s : State) (f : State → State) : State := if s.powered then f s else s

/-! ### Ports and notices -/

/-- The state of one port. -/
def State.port (s : State) (p : Port) : PortState := s.ports.get p

/-- The state with one port's state replaced. -/
def State.setPort (s : State) (p : Port) (q : PortState) : State := { s with ports := s.ports.set p q }

/-- A notice mask admits a kind: the kind of code k is at bit k - 1 (R183, R192). -/
def admits (mask : BitVec 18) (k : NoticeKind) : Bool := mask.getLsbD (k.code - 1)

/-- The queue with LOST_AFTER set on its newest record (R183). -/
def markNewest : List Notice → List Notice
  | [] => []
  | [n] => [{ n with lostAfter := true }]
  | n :: m :: rest => n :: markNewest (m :: rest)

/-- A queue after a posting that its mask admits: a full queue drops the record and marks its newest (R183). -/
def enqueue (q : List Notice) (n : Notice) : List Notice :=
  if q.length < Config.queueSize then q ++ [n] else markNewest q

/-- A posting to one port (R183). -/
def State.postTo (s : State) (p : Port) (n : Notice) : State :=
  if admits (s.cfg.masks.get p) n.kind then
    s.setPort p { s.port p with queue := enqueue (s.port p).queue n }
  else s

/-- A posting to every port, made at each port by R183. -/
def State.postAll (s : State) (n : Notice) : State := ((s.postTo .a n).postTo .b n).postTo .c n

/-- A notice with its parameters, before any loss. -/
def notice (kind : NoticeKind) (time : Nat) (p1 p2 p3 : Option Param) : Notice := ⟨kind, time, p1, p2, p3, false⟩

/-- A response placed in a port's slot; one that replaces an unread response carries REPLACED (R182). -/
def State.place (s : State) (p : Port) (r : Response) : State :=
  s.setPort p { s.port p with slot := some { r with replaced := (s.port p).slot.isSome } }

/-- A request in progress awaits its completion on some port: a settings save (R181, R194). -/
def State.saving (s : State) : Bool := s.save.isSome

/-! ### Requests -/

/-- What a block answers: a status and the fields of the response. -/
structure Reply where
  status : Status
  body   : Body
deriving DecidableEq, Repr

/-- What a request does at the block it names: the state after it and the reply. RESTART and a SAVE_SETTINGS that is taken
place no response when they are taken, so their reply is absent (R180). -/
abbrev Answer := State × Option Reply

/-- A refusal: the state is left as it is (R189). -/
def refuse (s : State) (st : Status) : Answer := (s, some ⟨st, .empty⟩)

/-- An answer with fields. -/
def reply (s : State) (st : Status) (b : Body) : Answer := (s, some ⟨st, b⟩)

/-- OK, or OK_CLAMPED where a configuration value was clamped (R189). -/
def okStatus (clamped : Bool) : Status := if clamped then .okClamped else .ok

/-- The last-request time of a port takes the station time (R180). -/
def State.stamp (s : State) (p : Port) : State := s.setPort p { s.port p with lastRequest := some s.clock.time }

/-- The response to an answered request is placed with the code it echoes and its LONG mark (R177, R180). -/
def State.answer (p : Port) (code : Byte) (long : Bool) (a : Answer) : State :=
  match a.2 with
  | none => a.1
  | some r => a.1.place p ⟨r.status, false, long, code, r.body⟩

/-- A request taken on a port (R180): the last-request time is set, the block acts, and its response is placed. Nothing is
taken on a port that has a request in progress (R181), nor without main power (log 9). -/
def State.takeRequest (s : State) (p : Port) (code : Byte) (long : Bool) (f : State → Answer) : State :=
  if s.powered ∧ (s.port p).inProgress = none then State.answer p code long (f (s.stamp p)) else s

/-- A handler refused with BUSY while a settings save is in progress, before every other check (R189, R195). -/
def unlessSaving (f : State → Answer) (s : State) : Answer :=
  if s.saving then refuse s .busy else f s

end Sys2Proof.Machine
end

