-- ==== Sys2Proof/Machine/Operands.lean ====
section
/-! DEFINITION. The forms of the fields a request carries: configuration values that are clamped, optional fields, and values
that are refused with BAD_VALUE outside their set (00_scope.md, "Configuration values"; R189). -/

namespace Sys2Proof.Machine

open Sys2Proof

/-- An optional configuration value: absent leaves the setting, present is clamped into its range. The mark tells that it was
clamped. -/
def optClamp (lo hi : Int) (field : Option Int) (old : Int) : Marked :=
  match field with
  | none => ⟨old, false⟩
  | some v => clampMarked lo hi v

/-- An optional configuration value that the part holds as a count. -/
def optCount (lo hi : Int) (field : Option Int) (old : Nat) : Nat × Bool :=
  match field with
  | none => (old, false)
  | some v => ((clamp lo hi v).toNat, (clampMarked lo hi v).clamped)

/-- Three optional configuration values, one for each step, with the mark that any was clamped. -/
def optClampSteps (lo hi : Int) (f : PerStep (Option Int)) (old : PerStep Int) : PerStep Int × Bool :=
  let a := optClamp lo hi f.k1 old.k1
  let b := optClamp lo hi f.k2 old.k2
  let c := optClamp lo hi f.k3 old.k3
  (⟨a.mm, b.mm, c.mm⟩, a.clamped || b.clamped || c.clamped)

/-- Three optional counts, one for each step. -/
def optCountSteps (lo hi : Int) (f : PerStep (Option Int)) (old : PerStep Nat) : PerStep Nat × Bool :=
  let a := optCount lo hi f.k1 old.k1
  let b := optCount lo hi f.k2 old.k2
  let c := optCount lo hi f.k3 old.k3
  (⟨a.1, b.1, c.1⟩, a.2 || b.2 || c.2)

/-- A level field: 0 to 3, or not one of its values (R77, R92, R94). -/
def levelOf (n : Nat) : Option Level :=
  match n with
  | 0 => some .normal
  | 1 => some .watch
  | 2 => some .warning
  | 3 => some .danger
  | _ => none

/-- A cableway stop level field: 1 to 3, or not one of its values (R157). -/
def stepOf (n : Nat) : Option UpStep :=
  match n with
  | 1 => some .k1
  | 2 => some .k2
  | 3 => some .k3
  | _ => none

/-- A pattern field: 0 to 7, or not one of its values (R79, R84, R98). -/
def patternOf (n : Nat) : Option (Fin 8) := if h : n < 8 then some ⟨n, h⟩ else none

/-- A log interval field in minutes: one of the seven, or not one of its values (R43, R84). -/
def intervalOf (n : Nat) : Option Interval :=
  match n with
  | 1 => some .m1
  | 2 => some .m2
  | 5 => some .m5
  | 10 => some .m10
  | 15 => some .m15
  | 30 => some .m30
  | 60 => some .m60
  | _ => none

/-- A meter index field: 1 to 4, or not one of its values (R121, R139). -/
def meterOf (n : Nat) : Option MeterNo :=
  match n with
  | 1 => some .m1
  | 2 => some .m2
  | 3 => some .m3
  | 4 => some .m4
  | _ => none

/-- A fraction field: 0, 2, 6 or 8, or not one of its values (R145). -/
def fractionOf (n : Nat) : Option Fraction :=
  match n with
  | 0 => some .surface
  | 2 => some .two
  | 6 => some .six
  | 8 => some .eight
  | _ => none

/-- The number of a field that is never clamped: an index, a code, a level, a fraction, a count or an age. A negative number lies
below every range; it becomes 4,294,967,296, which lies above every range, so that every entry refuses it with BAD_VALUE (R189). -/
def unclampedNumber (n : Int) : Nat := if 0 ≤ n then n.toNat else two32

/-- A field with a KEEP form or an absent form: absent stays absent, a value outside its set refuses the request. -/
def optField {α : Type} (f : Nat → Option α) (field : Option Nat) : Option (Option α) :=
  match field with
  | none => some none
  | some n => (f n).map some

/-- Four optional pattern fields, one for each level, applied over the settings in force; absent where any is above 7
(R79, R98). -/
def optPatterns (f : PerLevel (Option Nat)) (old : PerLevel (Fin 8)) : Option (PerLevel (Fin 8)) :=
  match optField patternOf f.l0, optField patternOf f.l1, optField patternOf f.l2, optField patternOf f.l3 with
  | some a, some b, some c, some d => some ⟨a.getD old.l0, b.getD old.l1, c.getD old.l2, d.getD old.l3⟩
  | _, _, _, _ => none

/-- A pattern field of a record that is clamped and then rounded to a multiple of 100 (R101). -/
def patternMs (lo hi v : Int) : Nat × Bool :=
  let r := roundDiv (clamp lo hi v) 100 * 100
  (r.toNat, decide (r ≠ v))

/-- A 32-bit value as it is carried on the wire (log 24). -/
def wire32 (n : Nat) : Nat := n % two32

end Sys2Proof.Machine
end

