-- ==== Sys2Proof/Machine/Rating.lean ====
section
/-! DEFINITION. The rating unit (03_rating_tables.md, R46 to R61): banks, rated discharge, the edit claim, and its requests. -/

namespace Sys2Proof.Machine

open Sys2Proof

/-! ### Banks -/

/-- The first failure of a pair condition of R46 along a bank, the points being numbered from `i`. The stage condition is looked
at before the discharge condition (log 17). -/
def orderFailure (i : Nat) : List RatingPoint → Option RatingFailure
  | a :: b :: rest =>
    if b.h ≤ a.h then some ⟨.stageOrder, some (i + 1)⟩
    else if b.q < a.q then some ⟨.dischargeOrder, some (i + 1)⟩
    else orderFailure (i + 1) (b :: rest)
  | _ => none

/-- The first condition of R46 that a bank fails, absent when the bank is valid (R46, R53). -/
def bankFailure (bank : List RatingPoint) : Option RatingFailure :=
  if bank.length < 2 then some ⟨.tooFewPoints, none⟩ else orderFailure 0 bank

/-! ### Rated discharge -/

/-- The discharge on the straight line through two points (R47). -/
def onSegment (a b : RatingPoint) (h : Int) : Int := a.q + roundDiv ((h - a.h) * (b.q - a.q)) (b.h - a.h)

/-- The rated discharge above the bank: the last segment extended, clamped at 10,000,000 L/s (R47). -/
def aboveBank (q : Int) : Rated :=
  if 10000000 < q then ⟨10000000, ⟨false, true, true⟩⟩ else ⟨q, ⟨false, true, false⟩⟩

/-- The rated discharge of a stage above the point `a`, the points after it following (R47). A bank of one point is not valid
and has no segment; its discharge is that point's. -/
def ratedAfter (h : Int) : RatingPoint → List RatingPoint → Rated
  | a, [] => aboveBank a.q
  | a, b :: rest =>
    if h ≤ b.h then ⟨onSegment a b h, ⟨false, false, false⟩⟩
    else
      match rest with
      | [] => aboveBank (onSegment a b h)
      | _ :: _ => ratedAfter h b rest

/-- The rated discharge of a bank at a stage (R47). A bank without points, which is not valid, rates 0. -/
def ratedDischarge (bank : List RatingPoint) (h : Int) : Rated :=
  match bank with
  | [] => ⟨0, ⟨false, false, false⟩⟩
  | a :: rest => if h ≤ a.h then ⟨a.q, ⟨true, false, false⟩⟩ else ratedAfter h a rest

/-! ### The edit claim -/

/-- The claim released; the alternate bank stands and the idle timer stops (R50, R60). -/
def RatingUnit.release (r : RatingUnit) : RatingUnit := { r with claim := none, idle := 0 }

/-- The seconds left that a response gives, 1 to 600 (R59). A claim whose timer the last count brought to 0 and whose idle expiry is
not yet taken is shown as it stood before that expiry, with 1 second left (log 6). -/
def RatingUnit.secondsLeft (r : RatingUnit) : Nat := max 1 r.idle

/-- The idle timer after a count of the station clock (R51). -/
def RatingUnit.count (r : RatingUnit) : RatingUnit :=
  match r.claim with
  | some _ => { r with idle := r.idle - 1 }
  | none => r

/-- The idle expiry: the count that brought the timer to 0 releases the claim (R51). -/
def State.idleExpiry (s : State) : State :=
  if s.rating.claim.isSome ∧ s.rating.idle = 0 then { s with rating := s.rating.release } else s

/-- The idle timer reloaded by an editing request of the holder (R51). -/
def State.reloadIdle (s : State) : State := { s with rating := { s.rating with idle := Config.idleSeconds } }

/-- An editing request: refused with NOT_HOLDER from a port that does not hold the claim; from the holder it reloads the idle
timer, whether it is then taken or refused (R51, R53, R54, R55). -/
def asEditor (p : Port) (f : State → Answer) (s : State) : Answer :=
  if s.rating.claim = some p then f s.reloadIdle else refuse s .notHolder

/-! ### Requests -/

/-- The points of a bank (R49, R58). -/
def State.bank (s : State) : Bank → List RatingPoint
  | .principal => s.cfg.bank
  | .alternate => s.rating.alternate

/-- RATING_QUERY (R49). -/
def ratingQuery (bank : Code Bank) (h : Int) (s : State) : Answer :=
  let w := clampStage h
  match bank with
  | .outside => refuse s .badValue
  | .named .principal => reply s (okStatus w.clamped) (.rated (ratedDischarge s.cfg.bank w.mm) s.rating.generation)
  | .named .alternate =>
    if bankFailure s.rating.alternate = none then
      reply s (okStatus w.clamped) (.rated (ratedDischarge s.rating.alternate w.mm) s.rating.generation)
    else refuse s .invalidTable

/-- RATING_BEGIN (R52). -/
def ratingBegin (p : Port) (s : State) : Answer :=
  let taken := { s with rating := { s.rating with alternate := s.cfg.bank, claim := some p, idle := Config.idleSeconds } }
  let ok := reply taken .ok (.ratingBegun s.rating.generation s.cfg.bank.length)
  match s.rating.claim with
  | none => ok
  | some holder => if holder = p then ok else reply s .heldByOther (.heldBy holder s.rating.secondsLeft)

/-- The state with a new alternate bank, and the answer RATING_POINT and RATING_TRUNCATE give (R53, R54). -/
def editAlternate (s : State) (alternate : List RatingPoint) (clamped : Bool) : Answer :=
  reply { s with rating := { s.rating with alternate := alternate } } (okStatus clamped)
    (.ratingEdited alternate.length (bankFailure alternate))

/-- RATING_POINT (R53). -/
def ratingPoint (p : Port) (index : Nat) (h q : Int) : State → Answer := asEditor p fun s =>
  let alt := s.rating.alternate
  let hh := clampStage h
  let qq := clampMarked 0 10000000 q
  let pt : RatingPoint := ⟨hh.mm, qq.mm⟩
  let clamped := hh.clamped || qq.clamped
  if index < alt.length then editAlternate s (alt.set index pt) clamped
  else if index = alt.length ∧ index < Config.bankSize then editAlternate s (alt ++ [pt]) clamped
  else refuse s .badValue

/-- RATING_TRUNCATE (R54). -/
def ratingTruncate (p : Port) (count : Nat) : State → Answer := asEditor p fun s =>
  if count ≤ s.rating.alternate.length then editAlternate s (s.rating.alternate.take count) false else refuse s .badValue

/-- The rating generation after a commit (R57). -/
def nextGeneration (g : Nat) : Nat := (g + 1) % two16

/-- The act of a successful RATING_COMMIT (R55). -/
def State.commitRating (s : State) (p : Port) : State :=
  let g := nextGeneration s.rating.generation
  let bank := s.rating.alternate
  ({ s with
      cfg := { s.cfg with bank := bank }
      rating := { alternate := s.cfg.bank, generation := g, claim := none, idle := 0 } }).postAll
    (notice .ratingSwitched s.clock.time (some (.num g)) (some (.num bank.length)) (some (.port p)))

/-- RATING_COMMIT, its checks in the order of R55. -/
def ratingCommit (p : Port) : State → Answer := asEditor p fun s =>
  if s.saving then refuse s .busy
  else
    match bankFailure s.rating.alternate with
    | some f => reply s .invalidTable (.ratingInvalid (some f))
    | none => reply (s.commitRating p) .ok (.ratingCommitted (nextGeneration s.rating.generation))

/-- RATING_CANCEL (R56). -/
def ratingCancel (p : Port) (s : State) : Answer :=
  if s.rating.claim = some p then reply { s with rating := s.rating.release } .ok .empty else refuse s .notHolder

/-- Points with their indexes, numbered from `i`. -/
def numbered (i : Nat) : List RatingPoint → List (Nat × RatingPoint)
  | [] => []
  | x :: rest => (i, x) :: numbered (i + 1) rest

/-- READ_RATING (R58). -/
def readRating (bank : Code Bank) (first : Nat) (s : State) : Answer :=
  match bank with
  | .outside => refuse s .badValue
  | .named b =>
    if first < Config.bankSize then
      reply s .ok (.ratingPoints (s.bank b).length s.rating.generation (numbered first (((s.bank b).drop first).take 6)))
    else refuse s .badValue

/-- GET_RATING_STATUS (R59). -/
def ratingStatus (s : State) : RatingStatus :=
  { generation := s.rating.generation, principalCount := s.cfg.bank.length, firstPoint := s.cfg.bank.head?,
    lastPoint := s.cfg.bank.getLast?, alternateCount := s.rating.alternate.length,
    failure := bankFailure s.rating.alternate, claim := s.rating.claim,
    idle := s.rating.claim.map (fun _ => s.rating.secondsLeft) }

/-- GET_RATING_STATUS (R59). -/
def getRatingStatus (s : State) : Answer := reply s .ok (.ratingStatus (ratingStatus s))

end Sys2Proof.Machine
end

