-- ==== Sys2Proof/Machine/Sensing.lean ====
section
/-! DEFINITION. The stage sensing unit (01_stage_sensing.md, R2 to R23): float encoder, pressure line, the sample expiry, and
its requests. -/

namespace Sys2Proof.Machine

open Sys2Proof

/-! ### Quadrature counters -/

/-- The next pair of the cycle 00, 01, 11, 10 (R2, R112). -/
def LevelPair.next (p : LevelPair) : LevelPair := ⟨p.b, !p.a⟩

/-- A change of level on the channels of a quadrature counter (R2, R112, R115). A pair equal to the phase is no change of level
and has no effect (log 8). -/
def Quad.step (q : Quad) (pair : LevelPair) : Quad :=
  if pair = q.phase then q
  else if pair = LevelPair.next q.phase then
    if q.count < 2147483647 then { q with count := q.count + 1, phase := pair }
    else { q with phase := pair, fault := some .saturated }
  else if q.phase = LevelPair.next pair then
    if -2147483648 < q.count then { q with count := q.count - 1, phase := pair }
    else { q with phase := pair, fault := some .saturated }
  else { q with phase := pair, fault := some .illegalTransition }

/-- The float encoder after a change of level (R2). -/
def floatTransition (pair : LevelPair) (s : State) : State :=
  { s with sensing := { s.sensing with float := s.sensing.float.step pair } }

/-! ### Pressure line -/

/-- The mark of a character from its stop bit and data bits (R4). -/
def charMark (data : Byte) (stopHigh : Bool) : CharMark :=
  if stopHigh then .none else if data = 0 then .break else .framing

/-- The value of an ASCII digit (log 13). -/
def digitValue (b : Byte) : Option Nat :=
  if 0x30 ≤ b.toNat ∧ b.toNat ≤ 0x39 then some (b.toNat - 0x30) else none

/-- The value of a run of digits read from the left onto a value already read; absent when a character is no digit. -/
def digitsOnto (v : Nat) : List Byte → Option Nat
  | [] => some v
  | b :: rest =>
    match digitValue b with
    | some d => digitsOnto (10 * v + d) rest
    | none => none

/-- The value of 1 to 6 digits (R7). -/
def wholeDigits (bs : List Byte) : Option Nat :=
  if 1 ≤ bs.length ∧ bs.length ≤ 6 then digitsOnto 0 bs else none

/-- The characters before the first full stop, and those after it, absent where there is none. -/
def splitStop : List Byte → List Byte × Option (List Byte)
  | [] => ([], none)
  | b :: rest => if b = 0x2E then ([], some rest) else (b :: (splitStop rest).1, (splitStop rest).2)

/-- The magnitude in tenths of 1 to 6 digits, optionally followed by a full stop and exactly one digit (R7). -/
def magnitude (bs : List Byte) : Option Nat :=
  match wholeDigits (splitStop bs).1, (splitStop bs).2 with
  | some w, none => some (10 * w)
  | some w, some [d] => (digitValue d).map (fun t => 10 * w + t)
  | _, _ => none

/-- The reading in tenths of a millimetre of a line's characters, absent when the line is garbled (R7). -/
def readingOf (bs : List Byte) : Option Int :=
  match bs with
  | [] => none
  | b :: rest =>
    if b = 0x2D then (magnitude rest).map (fun m : Nat => -(m : Int)) else (magnitude bs).map (fun m : Nat => (m : Int))

/-- The parse of a line ended by carriage return: every character marked NONE and the characters of R7's form. -/
def parseLine (line : List LineChar) : Option Int :=
  if line.all (fun c => decide (c.mark = .none)) then readingOf (line.map LineChar.data) else none

/-- A line ended by carriage return (R7, R8). -/
def endLine (s : Sensing) : Sensing :=
  match parseLine s.receiver.buffer with
  | some r =>
    { s with receiver := { s.receiver with buffer := [] }, reading := some r, readingAge := 0, garbled := false }
  | none => { s with receiver := { s.receiver with buffer := [] }, garbled := true }

/-- A character arriving at the line buffer, by the table of R5. -/
def bufferChar (c : LineChar) (s : Sensing) : Sensing :=
  if c.data = 0x0D ∧ c.mark = .none then
    match s.receiver.mode with
    | .collecting => if s.receiver.buffer = [] then s else endLine s
    | .dropping => { s with receiver := { s.receiver with mode := .collecting } }
  else
    match s.receiver.mode with
    | .collecting =>
      if s.receiver.buffer.length < Config.lineSize then
        { s with receiver := { s.receiver with buffer := s.receiver.buffer ++ [c] } }
      else { s with receiver := { s.receiver with mode := .dropping, buffer := [] }, garbled := true }
    | .dropping => s

/-- A character taken by the pressure line receiver (R4, R5). While the line has not returned high after a BREAK the receiver
takes no new start bit, so no character is taken. -/
def characterArrival (data : Byte) (stopHigh : Bool) (s : Sensing) : Sensing :=
  if s.receiver.breakHold then s
  else
    let mark := charMark data stopHigh
    let t := bufferChar ⟨data, mark⟩ s
    { t with receiver := { t.receiver with breakHold := decide (mark = .break) } }

/-- An idle gap on the pressure line (R6). -/
def idleGap (s : Sensing) : Sensing :=
  match s.receiver.mode with
  | .collecting =>
    if s.receiver.buffer = [] then s else { s with receiver := { s.receiver with buffer := [] }, garbled := true }
  | .dropping => { s with receiver := { s.receiver with mode := .collecting } }

/-- The line returning high after a BREAK character (R4). -/
def lineHigh (s : Sensing) : Sensing := { s with receiver := { s.receiver with breakHold := false } }

/-! ### Offered stages -/

/-- The float stage from a count (R3). -/
def floatStage (c : SensingSettings) (count : Int) : Marked := clampStage (c.datumF + scaled count c.pitchNm)

/-- The pressure stage from a reading (R10). -/
def pressStage (c : SensingSettings) (r : Int) : Marked := clampStage (c.datumP + roundDiv (r * c.gain) 10000)

/-- The stage the float gauge offers, absent when it is unusable (R3). -/
def floatOffer (c : SensingSettings) (s : Sensing) : Option Marked :=
  if s.float.fault = none then some (floatStage c s.float.count) else none

/-- The stage the pressure gauge offers, absent when it is unusable (R9, R10). -/
def pressOffer (c : SensingSettings) (s : Sensing) : Option Marked :=
  match s.reading with
  | some r => if (s.readingAge : Int) ≤ c.staleS then some (pressStage c r) else none
  | none => none

/-! ### The sample expiry -/

/-- The disagreement check (R16): the counts and DISAGREE after it, when both gauges offer a stage. -/
def checkDisagree (agreeMm : Int) (f p : Option Marked) (s : Sensing) : Sensing :=
  match f, p with
  | some a, some b =>
    if agreeMm < |a.mm - b.mm| then
      let n := raiseTo 60 s.disagreeCount 1
      if n = 60 ∧ s.disagree = false then { s with disagree := true, disagreeCount := 0, agreeCount := 0 }
      else { s with disagreeCount := n, agreeCount := 0 }
    else
      let n := raiseTo 60 s.agreeCount 1
      if n = 60 ∧ s.disagree = true then { s with disagree := false, disagreeCount := 0, agreeCount := 0 }
      else { s with disagreeCount := 0, agreeCount := n }
  | _, _ => s

/-- What a try of a gauge gives (R12): the accepted candidate with its RESEATED mark, or nothing. -/
structure Tried where
  accepted : Option (Marked × Bool)
  filter   : GaugeFilter
deriving DecidableEq, Repr

/-- A candidate accepted: the reject count becomes 0, and the re-seat pending flag is consumed (R12, R13). -/
def acceptCandidate (cand : Marked) (reseated : Bool) : Tried := ⟨some (cand, reseated), ⟨0, false⟩⟩

/-- The step filter applied to a candidate (R12, R13). -/
def stepFilter (stepMm : Int) (last : Option Marked) (g : GaugeFilter) (cand : Marked) : Tried :=
  match last with
  | none => acceptCandidate cand g.reseat
  | some l =>
    if g.reseat then acceptCandidate cand true
    else if |cand.mm - l.mm| ≤ stepMm then acceptCandidate cand false
    else if 3 ≤ g.rejects + 1 then acceptCandidate cand true
    else ⟨none, ⟨g.rejects + 1, false⟩⟩

/-- A gauge at an expiry: tried with its offered stage, or not tried, which sets its reject count to 0 (R12). -/
def tryGauge (stepMm : Int) (last : Option Marked) (g : GaugeFilter) (offer : Option Marked) : Tried :=
  match offer with
  | some cand => stepFilter stepMm last g cand
  | none => ⟨none, { g with rejects := 0 }⟩

/-- The offers and filters of the two gauges in the order in which PRIMARY has them tried (R11). -/
structure Tries where
  first  : Tried
  second : Tried
deriving DecidableEq, Repr

/-- Both tries of an expiry: the secondary is tried only when the primary gave no accepted candidate (R12). -/
def tryBoth (stepMm : Int) (last : Option Marked) (g1 g2 : GaugeFilter) (o1 o2 : Option Marked) : Tries :=
  let t1 := tryGauge stepMm last g1 o1
  ⟨t1, tryGauge stepMm last g2 (if t1.accepted.isSome then none else o2)⟩

/-- The source of a sample accepted from a gauge (R14). -/
def sourceOf : Gauge → SampleSource
  | .float => .float
  | .press => .press

/-- The other gauge (R11). -/
def otherGauge : Gauge → Gauge
  | .float => .press
  | .press => .float

/-- The sample formed from the tries (R14), with the last accepted stage it repeats when held. -/
def formSample (primary : Gauge) (t : Tries) (last : Option Marked) (disagree : Bool) : Sample :=
  match t.first.accepted, t.second.accepted with
  | some (m, r), _ => ⟨some m.mm, sourceOf primary, ⟨r, m.clamped, disagree⟩⟩
  | none, some (m, r) => ⟨some m.mm, sourceOf (otherGauge primary), ⟨r, m.clamped, disagree⟩⟩
  | none, none =>
    match last with
    | some l => ⟨some l.mm, .held, ⟨false, l.clamped, disagree⟩⟩
    | none => ⟨none, .held, ⟨false, false, disagree⟩⟩

/-- The last accepted stage after the tries (R12). -/
def newAccepted (t : Tries) (last : Option Marked) : Option Marked :=
  match t.first.accepted, t.second.accepted with
  | some (m, _), _ => some m
  | none, some (m, _) => some m
  | none, none => last

/-- The sensor state after a held sample, by the table of R15; `reached` tells that the held-second count is at or above the
hold limit. -/
def heldSensorState (before : SensorState) (reached : Bool) : SensorState :=
  match before with
  | .ok => .holding
  | .holding => if reached then .lost else .holding
  | .lost => .lost

/-- The sensor state and held-second count after a sample (R15). -/
def updateSensor (holdLimitS : Int) (held : Bool) (s : Sensing) : Sensing :=
  if held then
    let n := raiseTo 65535 s.heldSeconds 1
    { s with heldSeconds := n, sensorState := heldSensorState s.sensorState (decide (holdLimitS ≤ (n : Int))) }
  else { s with heldSeconds := 0, sensorState := .ok }

/-- The reading age at an expiry: it rises while a reading exists and stops at 65,535 (R9). -/
def ageReading (s : Sensing) : Sensing :=
  match s.reading with
  | some _ => { s with readingAge := raiseTo 65535 s.readingAge 1 }
  | none => s

/-- The sample expiry of one station second, in the order of R11. -/
def sampleExpiry (c : SensingSettings) (time : Nat) (s0 : Sensing) : Sensing :=
  let s1 := ageReading s0
  let f := floatOffer c s1
  let p := pressOffer c s1
  let s2 := checkDisagree c.agreeMm f p s1
  let t :=
    match c.primary with
    | .float => tryBoth c.stepMm s2.lastAccepted s2.floatFilter s2.pressFilter f p
    | .press => tryBoth c.stepMm s2.lastAccepted s2.pressFilter s2.floatFilter p f
  let sample := formSample c.primary t s2.lastAccepted s2.disagree
  let s3 :=
    match c.primary with
    | .float => { s2 with floatFilter := t.first.filter, pressFilter := t.second.filter }
    | .press => { s2 with floatFilter := t.second.filter, pressFilter := t.first.filter }
  let s4 := updateSensor c.holdLimitS (decide (sample.source = .held)) { s3 with lastAccepted := newAccepted t s2.lastAccepted }
  { s4 with record := ⟨sample, time⟩ }

/-- The SENSOR_STATE notice of one change (R21). -/
def sensorNotice (change : Param) (s : Sensing) : Notice :=
  notice .sensorState s.record.time (some change) (some (.sensor s.sensorState)) (s.record.sample.value.map Param.num)

/-- The SENSOR_STATE notices of an expiry, the disagreement change first (R21). -/
def sensorNotices (old new : Sensing) : List Notice :=
  (if old.disagree = false ∧ new.disagree = true then [sensorNotice .disagreeSet new]
   else if old.disagree = true ∧ new.disagree = false then [sensorNotice .disagreeCleared new] else []) ++
  (if old.sensorState ≠ .lost ∧ new.sensorState = .lost then [sensorNotice .lostEntered new]
   else if old.sensorState = .lost ∧ new.sensorState ≠ .lost then [sensorNotice .lostLeft new] else [])

/-- Notices posted to every port in their order. -/
def State.postEach (s : State) (ns : List Notice) : State := ns.foldl State.postAll s

/-- The sample expiry at the unit: the record is rewritten and the changes are posted (R11, R21). -/
def State.senseSecond (s : State) : State :=
  let new := sampleExpiry s.cfg.sensing s.clock.time s.sensing
  ({ s with sensing := new }).postEach (sensorNotices s.sensing new)

/-- The stage the run unit, GET_STAGE and the notices read: the current record's value with the sensor state (R17). -/
def State.readStage (s : State) : StageReading := ⟨s.sensing.record.sample.value, s.sensing.sensorState⟩

/-- The reading is taken while the sensor state is HOLDING or LOST (R134, R140, R141). -/
def StageReading.heldStage (r : StageReading) : Bool := decide (r.sensor ≠ .ok)

/-! ### Requests -/

/-- The working settings with new sensing settings. -/
def State.setSensingCfg (s : State) (c : SensingSettings) : State := { s with cfg := { s.cfg with sensing := c } }

/-- GET_STAGE (R22). -/
def stageReport (s : State) : StageReport :=
  { record := s.sensing.record, sensorState := s.sensing.sensorState, heldSeconds := s.sensing.heldSeconds,
    floatStage := floatStage s.cfg.sensing s.sensing.float.count, floatCount := s.sensing.float.count,
    encoderFault := s.sensing.float.fault, pressStage := s.sensing.reading.map (pressStage s.cfg.sensing),
    reading := s.sensing.reading, readingAge := s.sensing.readingAge, garbled := s.sensing.garbled,
    lastAccepted := s.sensing.lastAccepted, floatFilter := s.sensing.floatFilter, pressFilter := s.sensing.pressFilter,
    disagree := s.sensing.disagree, disagreeCount := s.sensing.disagreeCount, agreeCount := s.sensing.agreeCount }

/-- GET_STAGE (R22). -/
def getStage (s : State) : Answer := reply s .ok (.stage (stageReport s))

/-- SET_FLOAT_STAGE (R18). -/
def setFloatStage (v : Int) : State → Answer := unlessSaving fun s =>
  let w := clampStage v
  let k := scaled s.sensing.float.count s.cfg.sensing.pitchNm
  let d := clampDatum (w.mm - k)
  let c := { s.cfg.sensing with datumF := d.mm }
  let t := { s.setSensingCfg c with
    sensing := { s.sensing with float := { s.sensing.float with fault := none }, floatFilter := ⟨0, true⟩ } }
  reply t (okStatus (w.clamped || d.clamped)) (.fitted d.mm (floatStage c s.sensing.float.count))

/-- SET_PRESS_STAGE (R19). -/
def setPressStage (v : Int) : State → Answer := unlessSaving fun s =>
  match s.sensing.reading, pressOffer s.cfg.sensing s.sensing with
  | some r, some _ =>
    let w := clampStage v
    let d := clampDatum (w.mm - roundDiv (r * s.cfg.sensing.gain) 10000)
    let c := { s.cfg.sensing with datumP := d.mm }
    let t := { s.setSensingCfg c with sensing := { s.sensing with pressFilter := ⟨0, true⟩ } }
    reply t (okStatus (w.clamped || d.clamped)) (.fitted d.mm (pressStage c r))
  | _, _ => refuse s .wrongState

/-- PRIMARY as the request carries it: absent keeps it, a value that is neither FLOAT nor PRESS is refused (R20). -/
def primaryField (field : Option (Code Gauge)) (old : Gauge) : Option Gauge :=
  match field with
  | none => some old
  | some (.named g) => some g
  | some .outside => none

/-- SET_SENSING (R20). -/
def setSensing (a : SensingArgs) : State → Answer := unlessSaving fun s =>
  let c := s.cfg.sensing
  match primaryField a.primary c.primary with
  | none => refuse s .badValue
  | some primary =>
    let pitch := optClamp 1 10000000 a.pitchNm c.pitchNm
    let gain := optClamp 900 1100 a.gain c.gain
    let stale := optClamp 1 60 a.staleS c.staleS
    let step := optClamp 50 2000 a.stepMm c.stepMm
    let hold := optClamp 60 900 a.holdLimitS c.holdLimitS
    let agree := optClamp 5 500 a.agreeMm c.agreeMm
    let c' := { c with primary := primary, pitchNm := pitch.mm, gain := gain.mm, staleS := stale.mm, stepMm := step.mm,
                       holdLimitS := hold.mm, agreeMm := agree.mm }
    let sen := { s.sensing with
      floatFilter := { s.sensing.floatFilter with reseat := s.sensing.floatFilter.reseat || decide (pitch.mm ≠ c.pitchNm) }
      pressFilter := { s.sensing.pressFilter with reseat := s.sensing.pressFilter.reseat || decide (gain.mm ≠ c.gain) } }
    reply { s.setSensingCfg c' with sensing := sen }
      (okStatus (pitch.clamped || gain.clamped || stale.clamped || step.clamped || hold.clamped || agree.clamped)) .empty

/-- GET_SENSING (R20). -/
def getSensing (s : State) : Answer := reply s .ok (.sensing s.cfg.sensing)

end Sys2Proof.Machine
end

