-- ==== Sys2Proof/Machine/Log.lean ====
section
/-! DEFINITION. The stage log unit and the station clock (02_stage_log_trend_and_station_clock.md, R24 to R45): minute means,
the trend ring, log entries, log memory, cursors, and the requests of the chapter. The minute close itself, which also reaches
the warning unit, is in Clock.lean. -/

namespace Sys2Proof.Machine

open Sys2Proof

/-! ### Clock -/

/-- One count of the station clock (R24, R25). -/
def Clock.count (c : Clock) : Clock :=
  { time := (c.time + 1) % two32, unset := c.unset || decide (two32 ≤ c.time + 1),
    setAge := c.setAge.map (fun a => raiseTo (two32 - 1) a 1) }

/-! ### Minute accumulator and minute mean -/

/-- Marks gathered: each is carried when either carries it (R27). -/
def SampleMarks.join (a b : SampleMarks) : SampleMarks :=
  ⟨a.reseated || b.reseated, a.clamped || b.clamped, a.disagree || b.disagree⟩

/-- The minute accumulator takes a sample with the sensor state handed with it (R27). -/
def Accumulator.take (a : Accumulator) (x : Sample) (sensor : SensorState) : Accumulator :=
  let b := { a with marks := SampleMarks.join a.marks x.marks, sensor := some sensor }
  match x.source with
  | .float => { b with sum := a.sum + x.value.getD 0, accFloat := a.accFloat + 1 }
  | .press => { b with sum := a.sum + x.value.getD 0, accPress := a.accPress + 1 }
  | .held => { b with held := a.held + 1, lastHeld := x.value }

/-- The source of a minute mean (R28). -/
def meanSource (a : Accumulator) : MeanSource :=
  if a.accFloat + a.accPress = 0 then .held
  else if a.accPress = 0 then .float
  else if a.accFloat = 0 then .press
  else .mixed

/-- The value of a minute mean: the rounded mean of the accepted samples, or the last held value (R28). -/
def meanValue (a : Accumulator) : Option Int :=
  if a.accFloat + a.accPress = 0 then a.lastHeld else some (roundDiv a.sum ((a.accFloat + a.accPress : Nat) : Int))

/-- The minute mean record formed at a close (R28). -/
def minuteMean (a : Accumulator) (closeTime : Nat) : MinuteMean :=
  { closeTime := closeTime, value := meanValue a, source := meanSource a, marks := a.marks,
    heldPart := decide (0 < a.held ∧ 0 < a.accFloat + a.accPress),
    accFloat := a.accFloat, accPress := a.accPress, held := a.held }

/-! ### Trend ring and rate of rise -/

/-- The trend ring after a minute mean (R29). -/
def joinRing (ring : List MinuteMean) (m : MinuteMean) : List MinuteMean :=
  match m.value with
  | none => ring
  | some _ => if ring.length < Config.ringSize then ring ++ [m] else ring.drop 1 ++ [m]

/-- The value of the mean W places before the newest; absent when the ring holds fewer than W + 1 means (R30, R42). -/
def meanBefore (ring : List MinuteMean) (w : Nat) : Option Int :=
  if w + 1 ≤ ring.length then (ring[ring.length - 1 - w]?).bind MinuteMean.value else none

/-- The rate of rise from an updated ring (R30). -/
def rateOfRise (ring : List MinuteMean) (w : Nat) : Option Int :=
  match meanBefore ring 0, meanBefore ring w with
  | some m0, some mW => some (roundDiv ((m0 - mW) * 60) w)
  | _, _ => none

/-- The rate worked out at a minute close; a close that brings an absent mean makes it NONE (R30). -/
def closeRate (m : MinuteMean) (ring : List MinuteMean) (w : Nat) : Option Int :=
  match m.value with
  | none => none
  | some _ => rateOfRise ring w

/-! ### The entry in progress -/

/-- The entry in progress after a minute close: a present mean joins it, and every close counts for UNSET and the run flag
(R33). -/
def gatherMean (e : EntryInProgress) (m : MinuteMean) (unset runOpen : Bool) : EntryInProgress :=
  let e1 := { e with unset := e.unset || unset, runFlag := e.runFlag || runOpen }
  match m.value with
  | none => e1
  | some v =>
    { e1 with
      span := e.span + 1
      sum := e.sum + v
      peak := some (match e.peak with | none => v | some p => max p v)
      sawFloat := e.sawFloat || decide (m.source = .float)
      sawPress := e.sawPress || decide (m.source = .press)
      sawMixed := e.sawMixed || decide (m.source = .mixed)
      sawHeld := e.sawHeld || decide (m.source = .held)
      disagree := e.disagree || m.marks.disagree
      heldPart := e.heldPart || m.heldPart
      reseated := e.reseated || m.marks.reseated
      clamped := e.clamped || m.marks.clamped
      lastClose := m.closeTime }

/-- The source of a log entry (R32). -/
def entrySource (e : EntryInProgress) : MeanSource :=
  if e.sawMixed || (e.sawFloat && e.sawPress) then .mixed
  else if e.sawFloat then .float
  else if e.sawPress then .press
  else .held

/-- The marks an entry in progress has gathered; HELD_PART also when HELD means and others were gathered (R33). -/
def entryMarks (e : EntryInProgress) (timeStep : Bool) : EntryMarks :=
  { disagree := e.disagree, heldPart := e.heldPart || (e.sawHeld && (e.sawFloat || e.sawPress || e.sawMixed)),
    reseated := e.reseated, clamped := e.clamped, timeStep := timeStep, unset := e.unset, run := e.runFlag }

/-- The log entry an entry in progress gives when it is written (R32, R36). -/
def logEntryOf (e : EntryInProgress) (seq : Nat) (timeStep : Bool) (level : Level) : LogEntry :=
  { seq := seq, closeTime := e.lastClose, span := e.span, mean := roundDiv e.sum e.span, peak := e.peak.getD 0,
    source := entrySource e, marks := entryMarks e timeStep, level := level }

/-! ### Log memory -/

/-- The oldest sequence number; on an empty log the next sequence number (R36). -/
def LogUnit.oldest (l : LogUnit) : Nat :=
  match l.entries with
  | [] => l.nextSeq
  | e :: _ => e.seq

/-- The unread count of a port (R37). -/
def LogUnit.unread (l : LogUnit) (p : Port) : Nat := l.nextSeq - (l.cursors.get p).seq

/-- The LOG_GAP notice: the skipped count, the cursor after the move, the gap total after the rise (R36, R37). -/
def gapNotice (time skipped cursor gap : Nat) : Notice :=
  notice .logGap time (some (.num skipped)) (some (.num cursor)) (some (.num gap))

/-- The log unit with one port's cursor replaced. -/
def LogUnit.setCursor (l : LogUnit) (p : Port) (c : Cursor) : LogUnit := { l with cursors := l.cursors.set p c }

/-- A port's cursor moved by a loss of `skipped` unread entries: the gap total rises and LOG_GAP is posted (R36, R37). -/
def State.skipEntries (s : State) (p : Port) (skipped cursor : Nat) : State :=
  let gap := raiseTo 65535 (s.log.cursors.get p).gap skipped
  ({ s with log := s.log.setCursor p ⟨cursor, gap⟩ }).postTo p (gapNotice s.clock.time skipped cursor gap)

/-- The clear of the log before the write that follows entry 4,294,967,295, at one port (R36). -/
def State.wrapCursor (s : State) (p : Port) : State :=
  if 0 < s.log.unread p then s.skipEntries p (s.log.unread p) 1
  else { s with log := s.log.setCursor p ⟨1, (s.log.cursors.get p).gap⟩ }

/-- The clear of the log when the next sequence number stands at 4,294,967,296 (R36). -/
def State.wrapLog (s : State) : State :=
  if s.log.nextSeq = two32 then
    let t := ((s.wrapCursor .a).wrapCursor .b).wrapCursor .c
    { t with log := { t.log with entries := [], nextSeq := 1 } }
  else s

/-- A cursor that stands on the removed entry moves to the new oldest (R37). -/
def State.pushCursor (s : State) (removed : Nat) (p : Port) : State :=
  if (s.log.cursors.get p).seq = removed then s.skipEntries p 1 (removed + 1) else s

/-- The removal of the oldest entry of a full log (R36, R37). -/
def State.dropOldest (s : State) : State :=
  match s.log.entries with
  | e :: rest =>
    if Config.logSize ≤ s.log.entries.length then
      let t := { s with log := { s.log with entries := rest } }
      ((t.pushCursor e.seq .a).pushCursor e.seq .b).pushCursor e.seq .c
    else s
  | [] => s

/-- The write of an entry in progress as the next log entry, with a level (R36). -/
def State.writeEntry (s : State) (level : Level) : State :=
  let t := s.wrapLog.dropOldest
  let x := logEntryOf t.log.entry t.log.nextSeq t.log.timeStep level
  { t with log := { t.log with entries := t.log.entries ++ [x], nextSeq := t.log.nextSeq + 1, timeStep := false } }

/-- A new, empty entry in progress; its run flag is set while the run state is other than IDLE (R33). -/
def State.beginEntry (s : State) : State :=
  { s with log := { s.log with entry := emptyEntry s.run.ctx.isSome } }

/-- The entry in progress closes: it is written when it holds a present mean, and discarded otherwise; a new one begins
(R34, R35). -/
def State.closeEntry (s : State) (level : Level) : State :=
  if 0 < s.log.entry.span then (s.writeEntry level).beginEntry else s.beginEntry

/-- A change of the log interval with the level the action entry leaves (R35). -/
def State.changeInterval (s : State) (i : Interval) (level : Level) : State :=
  if i = s.log.interval then s
  else
    let t := s.closeEntry level
    { t with log := { t.log with interval := i } }

/-- The entry in progress at an interval boundary (R34). -/
def State.boundaryEntry (s : State) (closeTime : Nat) : State :=
  if closeTime % s.log.interval.seconds = 0 then s.closeEntry s.warning.level else s

/-! ### Requests -/

/-- GET_CLOCK (R25). -/
def getClock (s : State) : Answer := reply s .ok (.clock s.clock)

/-- Steps 1 to 8 of SET_CLOCK, once any close that its boundary count left due has been taken (R26, log 7). -/
def State.resetClock (s : State) (t : Nat) : State :=
  let old := s.clock
  let s1 := if 0 < s.log.entry.span then s.writeEntry s.warning.level else s
  let l := { s1.log with acc := emptyAccumulator, closeDue := false, ring := [], rate := none, timeStep := true }
  let s2 := ({ s1 with log := l, clock := ⟨t, false, some 0⟩ }).beginEntry
  s2.postAll (notice .clockSet t (some (.num old.time)) (some (.num t)) (some (.flag old.unset)))

/-- READ_LOG (R38). -/
def readLog (p : Port) (count : Nat) (s : State) : Answer :=
  if 1 ≤ count ∧ count ≤ 3 then
    let c := s.log.cursors.get p
    reply s .ok (.logEntries ((s.log.entries.filter (fun e => decide (c.seq ≤ e.seq))).take count) c.seq (s.log.unread p) c.gap)
  else refuse s .badValue

/-- ADVANCE_LOG (R39). -/
def advanceLog (p : Port) (n : Nat) (s : State) : Answer :=
  if n ≤ s.log.unread p then
    let l := s.log.setCursor p ⟨(s.log.cursors.get p).seq + n, 0⟩
    reply { s with log := l } .ok (.advanced (l.cursors.get p).seq (l.unread p))
  else refuse s .badValue

/-- SEEK_LOG (R40). -/
def seekLog (p : Port) (seq : Nat) (s : State) : Answer :=
  let c := max s.log.oldest (min s.log.nextSeq seq)
  let l := s.log.setCursor p ⟨c, 0⟩
  reply { s with log := l } (okStatus (decide (c ≠ seq))) (.sought c l.oldest (l.nextSeq - 1) (l.unread p))

/-- The close time at which the entry in progress will close if the interval does not change (R34, R41). -/
def State.entryClosesAt (s : State) : Nat :=
  let i := s.log.interval.seconds
  if s.log.closeDue ∧ s.clock.time % i = 0 then s.clock.time
  else
    let next := (s.clock.time / i + 1) * i
    if next < two32 then next else 0

/-- GET_LOG_STATUS (R41). -/
def logStatus (p : Port) (s : State) : LogStatus :=
  { oldest := s.log.oldest, newest := s.log.nextSeq - 1, next := s.log.nextSeq, held := s.log.entries.length,
    cursor := (s.log.cursors.get p).seq, unread := s.log.unread p, gap := (s.log.cursors.get p).gap,
    interval := s.log.interval, defaultInterval := s.cfg.log.defaultInterval, span := s.log.entry.span,
    peak := s.log.entry.peak, marks := entryMarks s.log.entry false, closesAt := s.entryClosesAt, timeStep := s.log.timeStep }

/-- GET_LOG_STATUS (R41). -/
def getLogStatus (p : Port) (s : State) : Answer := reply s .ok (.logStatus (logStatus p s))

/-- GET_TREND (R42). -/
def trendReport (s : State) : TrendReport :=
  { w := s.cfg.log.w, held := s.log.ring.length, rate := s.log.rate, newest := s.log.ring.getLast?,
    mW := meanBefore s.log.ring s.cfg.log.w, lastMean := s.log.lastMean, accFloat := s.log.acc.accFloat,
    accPress := s.log.acc.accPress, accHeld := s.log.acc.held }

/-- GET_TREND (R42). -/
def getTrend (s : State) : Answer := reply s .ok (.trend (trendReport s))

/-- SET_LOG_SETTINGS (R43). -/
def setLogSettings (w : Option Int) (interval : Option Nat) : State → Answer := unlessSaving fun s =>
  match optField intervalOf interval with
  | none => refuse s .badValue
  | some i =>
    let w' := optCount 5 60 w s.cfg.log.w
    reply { s with cfg := { s.cfg with log := ⟨w'.1, i.getD s.cfg.log.defaultInterval⟩ } } (okStatus w'.2) .empty

/-- GET_LOG_SETTINGS (R43). -/
def getLogSettings (s : State) : Answer := reply s .ok (.logSettings s.cfg.log)

end Sys2Proof.Machine
end

