-- ==== Sys2Proof/Machine/Cableway.lean ====
section
/-! DEFINITION. The cableway counter unit (07_cableway_counters_and_point_velocity.md, R112 to R132): position, meter pulses,
exposures, point velocity, and its requests. -/

namespace Sys2Proof.Machine

open Sys2Proof

/-! ### Position -/

/-- The traverse counter after a change of level (R112). -/
def traverseTransition (pair : LevelPair) (s : State) : State :=
  { s with cableway := { s.cableway with traverse := s.cableway.traverse.step pair } }

/-- The sounding counter after a change of level (R115). -/
def soundingTransition (pair : LevelPair) (s : State) : State :=
  { s with cableway := { s.cableway with sounding := s.cableway.sounding.step pair } }

/-- The station that a count, an offset and a pitch give (R113). -/
def stationFrom (count ipOffset pitchNm : Int) : Marked := clampMarked 0 1000000 (ipOffset + scaled count pitchNm)

/-- The depth that a count, a surface mark and a pitch give; below 0 it reads 0 without a mark (R116). -/
def depthFrom (count sMark pitchNm : Int) : Marked :=
  let d := scaled count pitchNm - sMark
  if d < 0 then ⟨0, false⟩ else clampMarked 0 30000 d

/-- The station now (R113). -/
def State.station (s : State) : Marked :=
  stationFrom s.cableway.traverse.count s.cableway.ipOffset s.cfg.counters.traversePitchNm

/-- The depth now (R116). -/
def State.depth (s : State) : Marked :=
  depthFrom s.cableway.sounding.count s.cableway.sMark s.cfg.counters.soundingPitchNm

/-- A position reading (R118). -/
def State.position (s : State) : PositionReading :=
  ⟨s.station, s.depth, s.cableway.traverse.fault, s.cableway.sounding.fault⟩

/-! ### Point velocity -/

/-- The first segment whose upper bound is at least a rotor speed, or the last segment, with its number from `i` (R126). -/
def segmentFor (nm : Int) (i : Nat) : List MeterSegment → Option (Nat × MeterSegment)
  | [] => none
  | [x] => some (i, x)
  | x :: y :: rest =>
    match x.bound with
    | some b => if nm ≤ b then some (i, x) else segmentFor nm (i + 1) (y :: rest)
    | none => some (i, x)

/-- A point's rotor speed, segment and velocity with its CLAMPED mark (R126, R127). -/
structure Speed where
  nm       : Option Int
  segment  : Option Nat
  velocity : Option Int
  clamped  : Bool
deriving DecidableEq, Repr

/-- The rotor speed in milli-revolutions per second (R126, step 1). -/
def rotorSpeed (c : Int) (pulses t : Nat) : Int := roundDiv (1000000 * pulses) (c * t)

/-- The velocity of a segment before the clamp (R126, step 3). -/
def segmentVelocity (x : MeterSegment) (c : Int) (pulses t : Nat) : Int := x.a + roundDiv (10 * x.bc * pulses) (c * t)

/-- The point velocity of a count of pulses over a time, with a meter record (R126, R127). -/
def pointSpeed (m : Meter) (pulses t : Nat) : Speed :=
  if pulses = 0 then ⟨some 0, none, some 0, false⟩
  else
    let nm := rotorSpeed m.c pulses t
    match segmentFor nm 1 m.segs with
    | some (i, x) =>
      let v := segmentVelocity x m.c pulses t
      if 9999 < v then ⟨some nm, some i, some 9999, true⟩ else ⟨some nm, some i, some v, false⟩
    | none => ⟨some nm, none, none, false⟩

/-- The point result of an exposure that ends at time t with marks SHORT and CUT as given (R124, R125, R128, R129). -/
def pointResult (meters : MeterTable) (x : Exposure) (t : Nat) (short cut : Bool) : PointResult :=
  if short ∧ t < Config.shortestMs then
    ⟨x.meter, x.startTime, x.depth, t, x.pulses, none, none, none, ⟨short, true, false, cut⟩⟩
  else
    let v := pointSpeed (meters.get x.meter) x.pulses t
    ⟨x.meter, x.startTime, x.depth, t, x.pulses, v.nm, v.segment, v.velocity, ⟨short, false, v.clamped, cut⟩⟩

/-! ### Exposures -/

/-- The exposure started by START_POINT (R123), with the POSITION_FAULT state of the reading the run unit takes then (R118,
log 36). -/
def State.startExposure (s : State) (meter : MeterNo) (target : Nat) : State :=
  let d := s.depth
  { s with cableway := { s.cableway with
      exposure := some ⟨meter, target, s.clock.time, 0, 0, ⟨d.mm, d.clamped, s.cableway.sounding.fault⟩,
        s.cableway.traverse.fault⟩ } }

/-- The exposure ended with a point: the last point result is written and the exposure becomes NONE (R124, R125, R129). -/
def State.endExposure (s : State) (r : PointResult) : State :=
  { s with cableway := { s.cableway with exposure := none, lastPoint := some r } }

/-- The exposure ended without a point (R130). -/
def State.discardExposure (s : State) : State := { s with cableway := { s.cableway with exposure := none } }

/-- Milliseconds counted by the unit's timebase: the elapsed time of a RUNNING exposure rises, to T at most (R119, R123). -/
def Cableway.pass (c : Cableway) (ms : Nat) : Cableway :=
  { c with now := c.now + ms, exposure := c.exposure.map (fun x => { x with elapsed := raiseTo x.target x.elapsed ms }) }

/-- The exposure expires within the next milliseconds: it reaches T before the last of them, or with the last of them where the
expiry does not wait for what falls together with it (R124, R125, R129, log 5). -/
def Cableway.expiresIn (c : Cableway) (ms : Nat) (waits : Bool) : Bool :=
  match c.exposure with
  | some x => decide (x.target < x.elapsed + ms) || (!waits && decide (x.target = x.elapsed + ms))
  | none => false

/-! ### Meter pulses -/

/-- A closure is counted when none was counted before, or the dead time has passed since the last (R119). -/
def Cableway.counts (c : Cableway) (deadMs : Nat) : Bool :=
  match c.lastClosure with
  | none => true
  | some t => decide (deadMs ≤ c.now - t)

/-- A closure of the meter contact at the present reading of the timebase (R119). -/
def Cableway.closure (c : Cableway) (deadMs : Nat) : Cableway :=
  if c.counts deadMs then
    { c with lastClosure := some c.now, spin := (c.spin + 1) % two32,
             exposure := c.exposure.map (fun x => { x with pulses := x.pulses + 1 }) }
  else c

/-! ### Requests -/

/-- A RUNNING exposure as READ_POSITION tells it (R131). -/
def Exposure.report (x : Exposure) : ExposureReport := ⟨x.meter, x.target, x.startTime, x.elapsed, x.pulses⟩

/-- READ_POSITION (R131). -/
def positionReport (s : State) : PositionReport :=
  { station := s.station, traverse := s.cableway.traverse.count, ipOffset := s.cableway.ipOffset,
    posFault := s.cableway.traverse.fault, depth := s.depth, sounding := s.cableway.sounding.count, sMark := s.cableway.sMark,
    sndFault := s.cableway.sounding.fault, spin := s.cableway.spin,
    exposure := s.cableway.exposure.map Exposure.report,
    lastPoint := s.cableway.lastPoint }

/-- READ_POSITION (R131). -/
def readPosition (s : State) : Answer := reply s .ok (.position (positionReport s))

/-- SET_INITIAL_POINT (R114). -/
def setInitialPoint (v : Int) (s : State) : Answer :=
  let w := clampMarked 0 1000000 v
  let k := scaled s.cableway.traverse.count s.cfg.counters.traversePitchNm
  let d := clampDatum (w.mm - k)
  let t := { s with cableway := { s.cableway with
    ipOffset := d.mm, traverse := { s.cableway.traverse with fault := none } } }
  reply t (okStatus (w.clamped || d.clamped)) (.initialPoint d.mm t.station)

/-- SURFACE_MARK (R117). -/
def surfaceMark (s : State) : Answer :=
  let d := clampDatum (scaled s.cableway.sounding.count s.cfg.counters.soundingPitchNm)
  reply { s with cableway := { s.cableway with sMark := d.mm, sounding := { s.cableway.sounding with fault := none } } }
    (okStatus d.clamped) (.surfaceMark d.mm)

/-- The segments of SET_METER clamped, the last without an upper bound, and whether any field was clamped (R121, step 2). An
ill-formed segment that lacks a bound it must carry takes the highest bound (log 24). -/
def meterSegments : List SegmentArg → List MeterSegment × Bool
  | [] => ([], false)
  | [x] =>
    let a := clampMarked 0 999 x.a
    let bc := clampMarked 1 200000 x.bc
    ([⟨none, a.mm, bc.mm⟩], a.clamped || bc.clamped)
  | x :: y :: rest =>
    let a := clampMarked 0 999 x.a
    let bc := clampMarked 1 200000 x.bc
    let b := clampMarked 1 1000000 (x.bound.getD 1000000)
    let r := meterSegments (y :: rest)
    (⟨some b.mm, a.mm, bc.mm⟩ :: r.1, a.clamped || bc.clamped || b.clamped || r.2)

/-- The upper bounds of a meter record strictly ascend (R120, R121). -/
def boundsAscend : List MeterSegment → Bool
  | x :: y :: rest =>
    (match x.bound, y.bound with
      | some a, some b => decide (a < b)
      | _, _ => true) && boundsAscend (y :: rest)
  | _ => true

/-- SET_METER, its checks in the order of R121. -/
def setMeter (index : Nat) (c : Int) (count : Nat) (segs : List SegmentArg) : State → Answer := unlessSaving fun s =>
  match meterOf index with
  | none => refuse s .badValue
  | some n =>
    if 1 ≤ count ∧ count ≤ 3 ∧ segs.length = count then
      let cc := clampMarked 1 10 c
      let ms := meterSegments segs
      if boundsAscend ms.1 then
        reply { s with cfg := { s.cfg with meters := s.cfg.meters.set n ⟨cc.mm, ms.1⟩ } } (okStatus (cc.clamped || ms.2))
          (.meter ⟨cc.mm, ms.1⟩)
      else refuse s .badValue
    else refuse s .badValue

/-- GET_METER (R121). -/
def getMeter (index : Nat) (s : State) : Answer :=
  match meterOf index with
  | none => refuse s .badValue
  | some n => reply s .ok (.meter (s.cfg.meters.get n))

/-- A counter whose pitch changed has its fault set with cause PITCH_CHANGED (R122). -/
def Quad.repitch (q : Quad) (changed : Bool) : Quad := if changed then { q with fault := some .pitchChanged } else q

/-- SET_COUNTER_SETTINGS (R122). -/
def setCounterSettings (traverse sounding deadMs : Option Int) : State → Answer := unlessSaving fun s =>
  let c := s.cfg.counters
  let t := optClamp 1 10000000 traverse c.traversePitchNm
  let d := optClamp 1 10000000 sounding c.soundingPitchNm
  let m := optCount 5 200 deadMs c.deadMs
  let cw := { s.cableway with
    traverse := s.cableway.traverse.repitch (decide (t.mm ≠ c.traversePitchNm))
    sounding := s.cableway.sounding.repitch (decide (d.mm ≠ c.soundingPitchNm)) }
  reply { s with cfg := { s.cfg with counters := ⟨t.mm, d.mm, m.1⟩ }, cableway := cw }
    (okStatus (t.clamped || d.clamped || m.2)) .empty

/-- GET_COUNTER_SETTINGS (R122). -/
def getCounterSettings (s : State) : Answer := reply s .ok (.counterSettings s.cfg.counters)

end Sys2Proof.Machine
end

