-- ==== Sys2Proof/Machine/Flags.lean ====
section
/-! DEFINITION. The marks and lines the part works out from what it holds: ATTN, used points, and the marks of a vertical. The
marks of samples, means and entries are in Sensing.lean and Log.lean. -/

namespace Sys2Proof.Machine

open Sys2Proof

/-- The ATTN line of a port: asserted while its slot holds a response or its queue holds a record (R185). -/
def State.attn (s : State) (p : Port) : Bool := (s.port p).slot.isSome || !(s.port p).queue.isEmpty

/-- A point is usable when it is neither DISCARDED nor excluded (R141). -/
def Point.usable (q : Point) : Bool := !q.result.marks.discarded && !q.excluded

/-- The used point of a fraction: the latest usable point of that fraction in the list (R141). -/
def usedPoint (f : Fraction) (pts : List Point) : Option Point :=
  (pts.filter (fun q => decide (q.fraction = f) && q.usable)).getLast?

/-- The used points of a list, one for each fraction that has one (R141). -/
def usedPoints (pts : List Point) : List Point :=
  [Fraction.surface, .two, .six, .eight].filterMap (fun f => usedPoint f pts)

/-- The fractions a method needs (R149). -/
def neededFractions : Method → List Fraction
  | .one => [.six]
  | .two => [.two, .eight]
  | .surf => [.surface]

/-- The fractions of a method that have no used point (R149, R150). -/
def missingFractions (m : Method) (pts : List Point) : List Fraction :=
  (neededFractions m).filter (fun f => (usedPoint f pts).isNone)

/-- A vertical is complete for its method; one whose method is absent is not (R149). -/
def Vertical.complete (v : Vertical) : Bool :=
  match v.method with
  | none => false
  | some m => (missingFractions m v.points).isEmpty

/-- Either fault flag was set in a station reading (R140). -/
def StationReading.faulty (r : StationReading) : Bool := r.posFault.isSome || r.sndFault.isSome

/-- Either fault flag was set in a SOUNDED depth reading (R140). -/
def DepthSource.faulty : DepthSource → Bool
  | .sounded _ p q => p.isSome || q.isSome
  | _ => false

/-- A SOUNDED depth was clamped (R140). -/
def DepthSource.clamped : DepthSource → Bool
  | .sounded c _ _ => c
  | _ => false

/-- The marks of an interior vertical, formed at ACCEPT with the stage read there (R140). For a used point either fault flag of the
reading at its exposure start counts (R118, log 36). -/
def interiorMarks (v : Vertical) (stage : StageReading) : VerticalMarks :=
  let used := usedPoints v.points
  { positionFault := v.station.faulty || (v.depth.map (fun d => d.source.faulty)).getD false ||
      used.any (fun q => q.result.depth.fault.isSome || q.posFault.isSome)
    short := used.any (fun q => q.result.marks.short)
    clamped := v.station.clamped || (v.depth.map (fun d => d.source.clamped)).getD false ||
      used.any (fun q => q.result.marks.clamped)
    heldStage := stage.heldStage }

/-- The marks of an edge, formed at MARK_EDGE: POSITION_FAULT and CLAMPED from the station reading alone, and no SHORT (R140). -/
def edgeMarks (station : StationReading) (stage : StageReading) : VerticalMarks :=
  ⟨station.faulty, false, station.clamped, stage.heldStage⟩

end Sys2Proof.Machine
end

