-- ==== Sys2Proof/Machine/Discharge.lean ====
section
/-! DEFINITION. Discharge computation and run results (09_discharge_computation_and_run_results.md, R161 to R174): the velocity
of a vertical, finalisation, the close computation, the results ring, READ_RESULT and READ_VERTICAL. -/

namespace Sys2Proof.Machine

open Sys2Proof

/-! ### Velocity of a vertical -/

/-- The velocity of the used point of a fraction. It is present whenever the method needs it (R161). -/
def usedVelocity (f : Fraction) (pts : List Point) : Int := ((usedPoint f pts).bind (fun q => q.result.velocity)).getD 0

/-- The method velocity (R161). -/
def methodVelocity (coeff : Int) (m : Method) (pts : List Point) : Int :=
  match m with
  | .one => usedVelocity .six pts
  | .two => roundDiv (usedVelocity .two pts + usedVelocity .eight pts) 2
  | .surf => roundDiv (usedVelocity .surface pts * coeff) 1000

/-- The mean velocity of an interior vertical: its method velocity times its angle coefficient (R162). -/
def interiorMean (coeff : Int) (m : Method) (angle : Int) (pts : List Point) : Int :=
  roundDiv (methodVelocity coeff m pts * angle) 1000

/-- The mean velocity of an edge from its adjacent interior vertical (R163). -/
def edgeMean (factor adjacent : Int) : Int := roundDiv (factor * adjacent) 1000

/-! ### Partial discharge, area and finalisation -/

/-- The partial discharge in mL/s (R164). -/
def partialDischarge (v d span : Int) : Int := roundDiv (v * d * span) 2000

/-- The partial area in mm² (R164). -/
def partialArea (d span : Int) : Int := roundDiv (d * span) 2

/-- The station of a vertical of the list. -/
def stationAt (vs : List Vertical) (i : Nat) : Int := ((vs[i]?).map (fun v => v.station.mm)).getD 0

/-- The mean velocity of a vertical of the list. -/
def meanAt (vs : List Vertical) (i : Nat) : Int := ((vs[i]?).bind (fun v => v.mean)).getD 0

/-- The span of a vertical of the list by its kind (R164). -/
def spanAt (vs : List Vertical) (kind : VerticalKind) (i : Nat) : Int :=
  match kind with
  | .interior => |stationAt vs (i + 1) - stationAt vs (i - 1)|
  | .startEdge => |stationAt vs (i + 1) - stationAt vs i|
  | .endEdge => |stationAt vs i - stationAt vs (i - 1)|

/-- The mean velocity a vertical has at its finalisation (R162, R163). -/
def finalMean (vs : List Vertical) (v : Vertical) (i : Nat) : Int :=
  match v.kind with
  | .interior => v.mean.getD 0
  | .startEdge => edgeMean (v.factor.getD 0) (meanAt vs (i + 1))
  | .endEdge => edgeMean (v.factor.getD 0) (meanAt vs (i - 1))

/-- A vertical with its values at finalisation (R165). -/
def finalValues (vs : List Vertical) (v : Vertical) (i : Nat) : Vertical :=
  let m := finalMean vs v i
  let d := (v.depth.map (fun x => x.mm)).getD 0
  let span := spanAt vs v.kind i
  { v with mean := some m, partialQ := some (partialDischarge m d span), partialA := some (partialArea d span) }

/-- A vertical list with the finalised sums. -/
structure Sums where
  verticals : List Vertical
  q         : Int
  a         : Int
deriving DecidableEq, Repr

/-- The vertical at an index finalised: its values written to its record and added to the sums (R165). -/
def Sums.finalise (x : Sums) (i : Nat) : Sums :=
  match x.verticals[i]? with
  | none => x
  | some v =>
    let w := finalValues x.verticals v i
    ⟨x.verticals.set i w, x.q + w.partialQ.getD 0, x.a + w.partialA.getD 0⟩

/-! ### The close computation -/

/-- The run's discharge and area: the sums over the list (R167). -/
def listDischarge (vs : List Vertical) : Int := (vs.map (fun v => v.partialQ.getD 0)).sum

/-- The sum of the partial areas of the list (R167). -/
def listArea (vs : List Vertical) : Int := (vs.map (fun v => v.partialA.getD 0)).sum

/-- The run's mean velocity with its CLAMPED mark (R167). -/
def runMeanVelocity (q a : Int) : Marked :=
  if a = 0 then ⟨0, false⟩
  else
    let v := roundDiv (q * 1000) a
    if 9999 < v then ⟨9999, true⟩ else ⟨v, false⟩

/-- The value of a stage reading. Stages read during a run are present (R168). -/
def StageReading.mm (r : StageReading) : Int := r.value.getD 0

/-- The mean gauge height (R168). -/
def gaugeHeight (vs : List Vertical) (q : Int) (atOpen atClose : StageReading) : Int :=
  if q = 0 then roundDiv (atOpen.mm + atClose.mm) 2
  else roundDiv ((vs.map (fun v => v.partialQ.getD 0 * ((v.stage.map StageReading.mm).getD 0))).sum) q

/-- The shift, absent when the rated discharge is 0 (R169). -/
def shiftOf (q ratedQ : Int) : Option Marked :=
  if ratedQ = 0 then none
  else some (clampMarked (-999) 999 (roundDiv ((q - ratedQ * 1000) * 1000) (ratedQ * 1000)))

/-- The result of a closed run (R153, R170). -/
def closedResult (s : State) (c : RunContext) : RunResult :=
  let vs := s.run.verticals
  let atClose := s.readStage
  let q := listDischarge vs
  let a := listArea vs
  let v := runMeanVelocity q a
  let gh := gaugeHeight vs q c.stageAtOpen atClose
  let r := ratedDischarge s.cfg.bank gh
  let sh := shiftOf q r.q
  { number := c.number, openTime := c.openTime, closeTime := s.clock.time, meter := c.meter, verticals := vs.length,
    finalised := none, q := q, area := a, meanVelocity := some v.mm, stageAtOpen := c.stageAtOpen,
    stageAtClose := some atClose, gaugeHeight := some gh, ratedQ := some r.q, generation := some s.rating.generation,
    shift := sh.map Marked.mm,
    marks := { abandoned := false, retrieved := c.retrieveMark, heldStage := c.heldStage, below := r.marks.below,
               beyond := r.marks.beyond,
               clamped := v.clamped || r.marks.clamped || (sh.map Marked.clamped).getD false } }

/-- A vertical of the list is finalised (R165). -/
def Vertical.isFinal (v : Vertical) : Bool := v.partialQ.isSome

/-- The result of an abandoned run (R154, R170). -/
def abandonedResult (s : State) (c : RunContext) : RunResult :=
  { number := c.number, openTime := c.openTime, closeTime := s.clock.time, meter := c.meter,
    verticals := s.run.verticals.length, finalised := some (s.run.verticals.filter Vertical.isFinal).length,
    q := c.qSum, area := c.aSum, meanVelocity := none, stageAtOpen := c.stageAtOpen, stageAtClose := none,
    gaugeHeight := none, ratedQ := none, generation := none, shift := none,
    marks := ⟨true, c.retrieveMark, c.heldStage, false, false, false⟩ }

/-- The results ring after a result joins it (R171). -/
def joinResults (ring : List RunResult) (r : RunResult) : List RunResult :=
  if ring.length < Config.resultsSize then ring ++ [r] else ring.drop 1 ++ [r]

/-- The list total kept with the list of an ended run; absent while the list is empty (R170, log 22). -/
def listTotalOf (vs : List Vertical) (q : Int) : Option Int := if vs = [] then none else some q

/-- The end of a run: its result joins the ring, its Q becomes the list total, RUN_CLOSED is posted, and the context is
discarded (R153, R154, R170). -/
def State.endRun (s : State) (c : RunContext) (r : RunResult) (way : Param) : State :=
  ({ s with run := { s.run with
      ctx := none, listTotal := listTotalOf s.run.verticals r.q, results := joinResults s.run.results r } }).postAll
    (notice .runClosed s.clock.time (some (.num c.number)) (some way) (some (.num s.run.verticals.length)))

/-! ### Reading results and verticals -/

/-- READ_RESULT (R172). -/
def readResult (age : Nat) (s : State) : Answer :=
  if age ≤ 7 then
    match s.run.results.reverse[age]? with
    | some r => reply s .ok (.resultRead r s.run.results.length)
    | none => refuse s .badValue
  else refuse s .badValue

/-- A vertical's share of the run's discharge, rounded toward zero; absent while the run is open, when the list total is 0 and
for a vertical that was not finalised (R173). -/
def shareOf (total : Option Int) (v : Vertical) : Option Int :=
  match total, v.partialQ with
  | some t, some q => if t = 0 then none else some (Int.tdiv (q * 1000) t)
  | _, _ => none

/-- READ_VERTICAL (R173). -/
def readVertical (index : Nat) (point : Option Nat) (s : State) : Answer :=
  match s.run.verticals[index]? with
  | none => refuse s .badValue
  | some v =>
    match point with
    | none =>
      reply s .ok (.verticalRead { v with points := [] } v.points.length v.isFinal
        (if s.run.ctx.isSome then none else shareOf s.run.listTotal v))
    | some j =>
      match v.points[j]? with
      | none => refuse s .badValue
      | some q =>
        if 3 < j then refuse s .badValue
        else reply s .ok (.pointRead q (decide (usedPoint q.fraction (v.points.drop j) = some q ∧ q.usable ∧
          ((v.points.drop (j + 1)).filter (fun x => decide (x.fraction = q.fraction) && x.usable)) = [])))

end Sys2Proof.Machine
end

