-- ==== Sys2Proof/Machine/Outputs.lean ====
section
/-! DEFINITION. The signal output unit (06_siren_beacon_and_retrieve_outputs.md, R100 to R111): pattern engines, output tests,
the RETRIEVE line, and its requests. -/

namespace Sys2Proof.Machine

open Sys2Proof

/-! ### Engines -/

/-- The start of an ON phase of a pattern of 1 to 7 with its record (R103). -/
def startOn (n : Fin 8) (r : Pattern) : Engine := ⟨n, .on, r.onMs, 1, true⟩

/-- A pattern number handed to an engine (R103): the same number leaves it as it is, 0 puts it in IDLE, and another starts at ON. -/
def Engine.hand (e : Engine) (t : PatternTable) (n : Fin 8) : Engine :=
  if n = e.pattern then e
  else
    match t.get? n.val with
    | none => idleEngine
    | some r => startOn n r

/-- The engine after an expiry of its phase, with the record of its pattern as the table stands (R102). -/
def Engine.expire (e : Engine) (r : Pattern) : Engine :=
  match e.phase with
  | .idle => e
  | .on => { e with phase := .off, timer := r.offMs, line := false }
  | .off =>
    if r.burst = 0 then { e with phase := .on, timer := r.onMs, line := true }
    else if e.count < r.burst then { e with phase := .on, timer := r.onMs, count := e.count + 1, line := true }
    else if 0 < r.pauseMs then { e with phase := .pause, timer := r.pauseMs, count := 0, line := false }
    else { e with phase := .on, timer := r.onMs, count := 1, line := true }
  | .pause => { e with phase := .on, timer := r.onMs, count := 1, line := true }

/-- The OFF expiry of an engine counts a burst of a test: every OFF expiry of a pattern of burst count 0, and every completed
burst of another (R102, R108). -/
def Engine.burstEnds (e : Engine) (r : Pattern) : Bool :=
  decide (e.phase = .off ∧ (r.burst = 0 ∨ r.burst ≤ e.count))

/-! ### One output -/

/-- A pattern handed to an output by any source other than its test: during a test it replaces the saved pattern (R103, R108). -/
def OutputState.hand (o : OutputState) (t : PatternTable) (n : Fin 8) : OutputState :=
  match o.test with
  | none => { o with engine := o.engine.hand t n }
  | some x => { o with test := some { x with saved := n } }

/-- A test ended by a level change: the record is removed and the engine is handed the saved pattern (R109). -/
def OutputState.endTest (o : OutputState) (t : PatternTable) : OutputState :=
  match o.test with
  | none => o
  | some x => ⟨o.engine.hand t x.saved, none⟩

/-- A phase expiry of an output with its test (R102, R108). The last burst of a test ends it before any PAUSE: the engine is
handed the saved pattern, or, where that is the pattern it runs, steps to its next phase (log 19). -/
def OutputState.expire (o : OutputState) (t : PatternTable) : OutputState :=
  match t.get? o.engine.pattern.val with
  | none => o
  | some r =>
    match o.test with
    | none => { o with engine := o.engine.expire r }
    | some x =>
      if o.engine.burstEnds r then
        if x.bursts ≤ 1 then
          if x.saved = o.engine.pattern then ⟨o.engine.expire r, none⟩ else ⟨o.engine.hand t x.saved, none⟩
        else ⟨o.engine.expire r, some { x with bursts := x.bursts - 1 }⟩
      else { o with engine := o.engine.expire r }

/-- The phase timer of an output after some milliseconds; at 0 the phase expires (R102, log 5). IDLE has no timer. After a level change
that was taken first and handed a saved pattern other than the test's, the engine stands at the start of ON with a full timer, and
the PHASE_EXPIRY that fell together with it steps that phase only where its milliseconds reach the full timer. R109 says that the
burst expiry steps the saved pattern, and R103 that the engine is left at the start of ON: which holds is the model's choice
(log 38). -/
def OutputState.pass (o : OutputState) (t : PatternTable) (ms : Nat) : OutputState :=
  if o.engine.phase = .idle then o
  else if ms < o.engine.timer then { o with engine := { o.engine with timer := o.engine.timer - ms } }
  else ({ o with engine := { o.engine with timer := 0 } }).expire t

/-! ### The unit -/

/-- One output of the unit. -/
def Outputs.get (o : Outputs) : Output → OutputState
  | .siren => o.siren
  | .beacon => o.beacon

/-- The unit with one output replaced. -/
def Outputs.set (o : Outputs) (out : Output) (x : OutputState) : Outputs :=
  match out with
  | .siren => { o with siren := x }
  | .beacon => { o with beacon := x }

/-- A pattern handed to an output (R103). -/
def State.hand (s : State) (out : Output) (n : Fin 8) : State :=
  { s with outputs := s.outputs.set out ((s.outputs.get out).hand s.cfg.patterns n) }

/-- An action entry's pattern field handed to an output; KEEP hands none (R86). -/
def State.handField (s : State) (out : Output) (field : Option (Fin 8)) : State :=
  match field with
  | none => s
  | some n => s.hand out n

/-- A level change reaching the unit: every running test is ended (R109). -/
def State.endTests (s : State) : State :=
  { s with outputs := { s.outputs with
      siren := s.outputs.siren.endTest s.cfg.patterns, beacon := s.outputs.beacon.endTest s.cfg.patterns } }

/-- The RETRIEVE line given a level by the run unit (R106). -/
def State.setRetrieve (s : State) (level : Bool) : State := { s with outputs := { s.outputs with retrieve := level } }

/-- The level patterns of the level in force handed to both outputs, siren first (R77, R80, R82). -/
def State.handLevelPatterns (s : State) (l : Level) : State :=
  (s.hand .siren (s.cfg.warning.siren.get l)).hand .beacon (s.cfg.warning.beacon.get l)

/-- A phase expiry of one engine (R102). -/
def State.phaseExpiry (s : State) (out : Output) (ms : Nat) : State :=
  { s with outputs := s.outputs.set out ((s.outputs.get out).pass s.cfg.patterns ms) }

/-! ### Requests -/

/-- GET_OUTPUTS of one output (R110). -/
def outputReport (o : OutputState) : OutputReport :=
  { pattern := o.engine.pattern, phase := o.engine.phase,
    msLeft := if o.engine.phase = .idle then none else some o.engine.timer, count := o.engine.count, line := o.engine.line,
    test := o.test }

/-- GET_OUTPUTS (R110). -/
def getOutputs (s : State) : Answer :=
  reply s .ok (.outputs (outputReport s.outputs.siren) (outputReport s.outputs.beacon) s.outputs.retrieve)

/-- The duration in ms that a test pattern gives (R107). -/
def testDuration (r : Pattern) (bursts : Nat) : Nat :=
  if r.burst = 0 then bursts * (r.onMs + r.offMs)
  else bursts * r.burst * (r.onMs + r.offMs) + (bursts - 1) * r.pauseMs

/-- The pattern a new test saves: the engine's, or that of the test it replaces (R107). -/
def OutputState.savedPattern (o : OutputState) : Fin 8 :=
  match o.test with
  | none => o.engine.pattern
  | some x => x.saved

/-- The test record opened for an output and the engine handed the test pattern (R107). -/
def OutputState.openTest (o : OutputState) (t : PatternTable) (n : Fin 8) (bursts : Nat) (p : Port) : OutputState :=
  ⟨o.engine.hand t n, some ⟨n, bursts, o.savedPattern, p⟩⟩

/-- OUTPUT_TEST, its checks in the order of R107. -/
def outputTest (p : Port) (out : Code Output) (pattern : Nat) (bursts : Int) (s : State) : Answer :=
  match out, patternOf pattern, s.cfg.patterns.get? pattern with
  | .named o, some n, some r =>
    if s.warning.level = .normal then
      let b := clampMarked 1 15 bursts
      let x := s.outputs.get o
      reply { s with outputs := s.outputs.set o (x.openTest s.cfg.patterns n b.mm.toNat p) } (okStatus b.clamped)
        (.testStarted x.savedPattern (testDuration r b.mm.toNat))
    else refuse s .levelTooHigh
  | _, _, _ => refuse s .badValue

/-- SET_PATTERN (R101). -/
def setPattern (number : Nat) (onMs offMs burst pauseMs : Int) : State → Answer := unlessSaving fun s =>
  match s.cfg.patterns.get? number with
  | none => refuse s .badValue
  | some _ =>
    let on := patternMs 100 10000 onMs
    let off := patternMs 100 10000 offMs
    let b := clampMarked 0 15 burst
    let pause := patternMs 0 60000 pauseMs
    let r : Pattern := ⟨on.1, off.1, b.mm.toNat, pause.1⟩
    reply { s with cfg := { s.cfg with patterns := s.cfg.patterns.set number r } }
      (okStatus (on.2 || off.2 || b.clamped || pause.2)) (.pattern r)

/-- GET_PATTERN (R101). -/
def getPattern (number : Nat) (s : State) : Answer :=
  match s.cfg.patterns.get? number with
  | none => refuse s .badValue
  | some r => reply s .ok (.pattern r)

end Sys2Proof.Machine
end

