-- ==== Sys2Proof/Machine/Run.lean ====
section
/-! DEFINITION. The gauging run unit (08_the_gauging_run.md, R133 to R160): run states, the holder claim, the run requests, point
arrivals and the retrieve request. -/

namespace Sys2Proof.Machine

open Sys2Proof

/-! ### Run states -/

/-- The run state a resting state stands for (R133). -/
def Rest.state : Rest → RunState
  | .ready => .ready
  | .sounding _ => .sounding
  | .points _ => .points
  | .review _ => .review

/-- The run state a phase stands for (R133). -/
def RunPhase.state : RunPhase → RunState
  | .opened => .opened
  | .rest r => r.state
  | .exposing _ _ => .exposing
  | .retrieving _ => .retrieving
  | .finished => .finished

/-- The run state; IDLE while the context is absent (R133, R134). -/
def State.runState (s : State) : RunState :=
  match s.run.ctx with
  | none => .idle
  | some c => c.phase.state

/-- The vertical under work of a resting state (R133). -/
def Rest.work : Rest → Option Vertical
  | .ready => none
  | .sounding v => some v
  | .points v => some v
  | .review v => some v

/-- The vertical under work; while RETRIEVING it is as the return state left it (R133). -/
def RunPhase.work : RunPhase → Option Vertical
  | .opened => none
  | .rest r => r.work
  | .exposing v _ => some v
  | .retrieving r => r.work
  | .finished => none

/-- The state with a run context. -/
def State.setCtx (s : State) (c : RunContext) : State := { s with run := { s.run with ctx := some c } }

/-- The state with the phase of its run changed. -/
def State.setPhase (s : State) (c : RunContext) (ph : RunPhase) : State := s.setCtx { c with phase := ph }

/-! ### The holder claim -/

/-- A run request of the holder: the quiet count becomes 0 and the last run-request time takes the station time (R136). -/
def RunContext.touch (c : RunContext) (time : Nat) : RunContext := { c with quiet := 0, lastRequest := time }

/-- The quiet count after a count of the station clock: it rises while the run is held and stops at 65,535 (R136). -/
def RunContext.count (c : RunContext) : RunContext :=
  match c.holder with
  | some _ => { c with quiet := raiseTo 65535 c.quiet 1 }
  | none => c

/-- A run request that needs the claim: in IDLE it is refused with WRONG_STATE, and from a port that does not hold the run with
NOT_HOLDER; from the holder it resets the quiet count, whether it is then taken or refused (R133, R136). -/
def asHolder (p : Port) (f : RunContext → State → Answer) (s : State) : Answer :=
  match s.run.ctx with
  | none => refuse s .wrongState
  | some c =>
    if c.holder = some p then f (c.touch s.clock.time) (s.setCtx (c.touch s.clock.time)) else refuse s .notHolder

/-- The claim released by a port clear: the run of that port becomes UNHELD (R135, R138). -/
def State.unhold (s : State) (p : Port) : State :=
  match s.run.ctx with
  | some c => if c.holder = some p then s.setCtx { c with holder := none } else s
  | none => s

/-- TAKE_RUN (R137). -/
def takeRun (p : Port) (s : State) : Answer :=
  match s.run.ctx with
  | none => refuse s .wrongState
  | some c =>
    let taken := s.setCtx { c.touch s.clock.time with holder := some p }
    match c.holder with
    | none => reply taken .ok .empty
    | some h =>
      if h = p then reply taken .ok .empty
      else if Config.quietSeconds ≤ c.quiet then
        reply (taken.postTo h
          (notice .holderLost s.clock.time (some (.num c.number)) (some (.port p)) (some (.num c.quiet)))) .ok .empty
      else reply s .heldByOther (.heldBy h c.quiet)

/-! ### Opening the run -/

/-- The run counter after a rise: it wraps from 4,294,967,295 to 1 (R139). -/
def nextRunNumber (n : Nat) : Nat := if two32 - 1 ≤ n then 1 else n + 1

/-- The context formed by OPEN_RUN (R134, R139). -/
def openedContext (s : State) (p : Port) (m : MeterNo) (target : Nat) (coeff : Int) : RunContext :=
  { phase := .opened, number := nextRunNumber s.run.counter, holder := some p, lastRequest := s.clock.time, quiet := 0,
    meter := m, target := target, coeff := coeff, direction := none, openTime := s.clock.time, stageAtOpen := s.readStage,
    retrieveMark := false, qSum := 0, aSum := 0, heldStage := s.readStage.heldStage }

/-- The act of OPEN_RUN (R139). -/
def State.openWith (s : State) (c : RunContext) : State :=
  { s with
    run := { s.run with ctx := some c, verticals := [], counter := c.number, listTotal := none }
    log := { s.log with entry := { s.log.entry with runFlag := true } } }

/-- OPEN_RUN (R139). It needs no claim; from the holder of the open run it resets the quiet count (R136). -/
def openRun (p : Port) (meter : Nat) (target : Int) (coeff : Option Int) (s : State) : Answer :=
  match s.run.ctx with
  | some c => refuse (if c.holder = some p then s.setCtx (c.touch s.clock.time) else s) .wrongState
  | none =>
    match s.sensing.record.sample.value, meterOf meter with
    | none, _ => refuse s .wrongState
    | some _, none => refuse s .badValue
    | some _, some m =>
      let t := clampMarked 20000 120000 target
      let k := optClamp 700 1000 coeff 860
      let c := openedContext s p m t.mm.toNat k.mm
      reply (s.openWith c) (okStatus (t.clamped || k.clamped)) (.runOpened c.number c.stageAtOpen m c.target c.coeff)

/-! ### Edges and verticals -/

/-- The station of a position reading with its marks (R140). -/
def PositionReading.toStation (r : PositionReading) : StationReading :=
  ⟨r.station.mm, r.station.clamped, r.posFault, r.sndFault⟩

/-- An edge record (R142, R152). -/
def edgeVertical (s : State) (kind : VerticalKind) (index : Nat) (depth factor : Int) : Vertical :=
  let st := s.position.toStation
  { index := index, kind := kind, station := st, depth := some ⟨depth, .given⟩, method := none, factor := some factor,
    angle := some 1000, points := [], mean := none, stage := some s.readStage, partialQ := none, partialA := none,
    marks := edgeMarks st s.readStage }

/-- A vertical under work as BEGIN_VERTICAL forms it (R143). -/
def newVertical (index : Nat) (station : StationReading) : Vertical :=
  { index := index, kind := .interior, station := station, depth := none, method := none, factor := none, angle := none,
    points := [], mean := none, stage := none, partialQ := none, partialA := none, marks := ⟨false, false, false, false⟩ }

/-- MARK_EDGE with side START, or with a side that is neither START nor END (R142). -/
def markEdgeStart (p : Port) (side : EdgeSide) (depth factor : Int) : State → Answer := asHolder p fun c s =>
  match side, c.phase with
  | .start, .opened =>
    let d := clampMarked 0 30000 depth
    let k := clampMarked 0 1000 factor
    let e := edgeVertical s .startEdge 0 d.mm k.mm
    let t := s.setCtx { c with phase := .rest .ready, heldStage := c.heldStage || s.readStage.heldStage }
    reply { t with run := { t.run with verticals := t.run.verticals ++ [e] } } (okStatus (d.clamped || k.clamped))
      (.station e.station)
  | .other, .opened => refuse s .badValue
  | .other, .rest .ready => refuse s .badValue
  | _, _ => refuse s .wrongState

/-- The station of the last vertical of the list (R143, R152). -/
def lastStation (vs : List Vertical) : Int := ((vs.getLast?).map (fun v => v.station.mm)).getD 0

/-- The station of the start edge (R143). -/
def startStation (vs : List Vertical) : Int := ((vs.head?).map (fun v => v.station.mm)).getD 0

/-- A station is strictly beyond the verticals of the list in the run's direction; while the direction is absent it must differ
from the start edge's (R143, R152). -/
def beyond (d : Option Direction) (vs : List Vertical) (station : Int) : Bool :=
  match d with
  | none => decide (station ≠ startStation vs)
  | some .ascending => decide (lastStation vs < station)
  | some .descending => decide (station < lastStation vs)

/-- The direction a first interior vertical sets (R143). -/
def directionOf (d : Option Direction) (vs : List Vertical) (station : Int) : Direction :=
  match d with
  | some x => x
  | none => if startStation vs < station then .ascending else .descending

/-- BEGIN_VERTICAL, its checks in the order of R143. -/
def beginVertical (p : Port) : State → Answer := asHolder p fun c s =>
  match c.phase with
  | .rest .ready =>
    let vs := s.run.verticals
    let st := s.position.toStation
    if 47 ≤ vs.length then refuse s .full
    else if beyond c.direction vs st.mm then
      reply (s.setCtx { c with phase := .rest (.sounding (newVertical vs.length st)),
                               direction := some (directionOf c.direction vs st.mm) }) .ok (.station st)
    else reply s .outOfOrder (.outOfOrder ⟨st.mm, st.clamped⟩ (lastStation vs))
  | _ => refuse s .wrongState

/-- MARK_BED (R144). -/
def markBed (p : Port) : State → Answer := asHolder p fun c s =>
  match c.phase with
  | .rest (.sounding v) =>
    let r := s.position
    let d : VerticalDepth := ⟨r.depth.mm, .sounded r.depth.clamped r.posFault r.sndFault⟩
    reply (s.setPhase c (.rest (.points { v with depth := some d }))) .ok (.depth d)
  | _ => refuse s .wrongState

/-! ### Points -/

/-- A point record completed by the run unit when the point of exposure `x` arrives (R141). -/
def State.newPoint (s : State) (x : Exposure) (r : PointResult) (f : Fraction) : Point :=
  { result := r, posFault := x.posFault, fraction := f, stage := s.readStage, heldStage := s.readStage.heldStage,
    excluded := false }

/-- A vertical with a point appended to its list (R146). -/
def Vertical.addPoint (v : Vertical) (q : Point) : Vertical := { v with points := v.points ++ [q] }

/-- START_POINT (R145). -/
def startPoint (p : Port) (fraction : Nat) : State → Answer := asHolder p fun c s =>
  match c.phase with
  | .rest (.points v) =>
    match fractionOf fraction with
    | none => refuse s .badValue
    | some f =>
      if 4 ≤ v.points.length then refuse s .full
      else
        reply ((s.startExposure c.meter c.target).setPhase c (.exposing v f)) .ok (.pointStarted s.clock.time c.target)
  | _ => refuse s .wrongState

/-- STOP_POINT (R125, R146). A run EXPOSING always has its exposure RUNNING; the form without one is unreachable (log 33). -/
def stopPoint (p : Port) : State → Answer := asHolder p fun c s =>
  match c.phase, s.cableway.exposure with
  | .exposing v f, some x =>
    let r := pointResult s.cfg.meters x x.elapsed true false
    let q := s.newPoint x r f
    reply ((s.endExposure r).setPhase c (.rest (.points (v.addPoint q)))) .ok (.point q)
  | _, _ => refuse s .wrongState

/-- The exposure ends at its expiry with t = T, and the point joins the vertical under work (R124, R146). -/
def State.expireExposure (s : State) : State :=
  match s.cableway.exposure with
  | none => s
  | some x =>
    let r := pointResult s.cfg.meters x x.target false false
    match s.run.ctx with
    | none => s.endExposure r
    | some c =>
      match c.phase with
      | .exposing v f => (s.endExposure r).setPhase c (.rest (.points (v.addPoint (s.newPoint x r f))))
      | _ => s.endExposure r

/-- Milliseconds pass on the cableway counter unit's timebase (log 5). -/
def State.passMs (s : State) (ms : Nat) : State := { s with cableway := s.cableway.pass ms }

/-- EXPOSURE_EXPIRY: the timebase counts on, and an exposure that reaches T expires. Where the expiry waits, an exposure that
reaches T with the last ms stays RUNNING with its elapsed time at T, so that a STOP_POINT or a retrieve request that falls together
with the expiry is taken first; the next row with `waits` false, or with more ms, takes the expiry (R124, R125, R129, log 5). -/
def exposureExpiry (ms : Nat) (waits : Bool) (s : State) : State :=
  if s.cableway.expiresIn ms waits then (s.passMs ms).expireExposure else s.passMs ms

/-- METER_CLOSURE: the timebase counts on, an exposure whose T lies before the closure expires first, and the closure is counted
or ignored (R119, R124, log 5). -/
def meterClosure (ms : Nat) (s : State) : State :=
  let t := exposureExpiry ms true s
  { t with cableway := t.cableway.closure t.cfg.counters.deadMs }

/-! ### Review -/

/-- END_VERTICAL (R147). -/
def endVertical (p : Port) (method : Code Method) (angle : Int) : State → Answer := asHolder p fun c s =>
  match c.phase with
  | .rest (.points v) =>
    match method with
    | .outside => refuse s .badValue
    | .named m =>
      let a := clampMarked 500 1000 angle
      let w := { v with method := some m, angle := some a.mm }
      reply (s.setPhase c (.rest (.review w))) (okStatus a.clamped) (.vertical w w.complete)
  | _ => refuse s .wrongState

/-- The points with the excluded field of one replaced (R148). -/
def setExcluded (pts : List Point) (i : Nat) (b : Bool) : List Point := pts.modify i (fun q => { q with excluded := b })

/-- ALTER carries a field that is refused: a method outside the three, or an index without a point (R148). -/
def alterBad (a : AlterArgs) (points : Nat) : Bool :=
  decide (a.method = some .outside) || (a.excl.any (fun i => decide (points ≤ i))) ||
    (a.incl.any (fun i => decide (points ≤ i)))

/-- The method ALTER leaves (R148). -/
def alterMethod (field : Option (Code Method)) (old : Option Method) : Option Method :=
  match field with
  | some (.named m) => some m
  | _ => old

/-- The points ALTER leaves: Exclude is applied before Include (R148). -/
def alterPoints (a : AlterArgs) (pts : List Point) : List Point :=
  let x := match a.excl with | some i => setExcluded pts i true | none => pts
  match a.incl with | some i => setExcluded x i false | none => x

/-- The vertical ALTER leaves, its fields applied in the order of R148, and whether a field was clamped. -/
def alterVertical (a : AlterArgs) (v : Vertical) : Vertical × Bool :=
  let d := a.depth.map (clampMarked 0 30000)
  let k := a.angle.map (clampMarked 500 1000)
  ({ v with
      depth := match d with | some x => some ⟨x.mm, .altered⟩ | none => v.depth
      method := alterMethod a.method v.method
      angle := match k with | some x => some x.mm | none => v.angle
      points := alterPoints a v.points },
    (d.any Marked.clamped) || (k.any Marked.clamped))

/-- ALTER (R148). -/
def alter (p : Port) (a : AlterArgs) : State → Answer := asHolder p fun c s =>
  match c.phase with
  | .rest (.review v) =>
    if alterBad a v.points.length then refuse s .badValue
    else
      let w := alterVertical a v
      reply (s.setPhase c (.rest (.review w.1))) (okStatus w.2) (.vertical w.1 w.1.complete)
  | _ => refuse s .wrongState

/-- The vertical under work as ACCEPT adds it to the list (R150, steps 1 to 3). -/
def acceptedVertical (coeff : Int) (m : Method) (v : Vertical) (stage : StageReading) : Vertical :=
  { v with mean := some (interiorMean coeff m (v.angle.getD 1000) v.points), stage := some stage,
           marks := interiorMarks v stage }

/-- The vertical list and the finalised sums after an act (R165). -/
def State.setSums (s : State) (c : RunContext) (x : Sums) : State :=
  { s with run := { s.run with ctx := some { c with qSum := x.q, aSum := x.a }, verticals := x.verticals } }

/-- ACCEPT (R150). The vertical before the accepted one in the list is finalised (R165). -/
def accept (p : Port) : State → Answer := asHolder p fun c s =>
  match c.phase with
  | .rest (.review v) =>
    match v.method with
    | none => reply s .incomplete (.missing [])
    | some m =>
      if v.complete then
        let w := acceptedVertical c.coeff m v s.readStage
        let vs := s.run.verticals
        let x := Sums.finalise ⟨vs ++ [w], c.qSum, c.aSum⟩ (vs.length - 1)
        let t := s.setSums { c with phase := .rest .ready, heldStage := c.heldStage || s.readStage.heldStage } x
        reply (t.postAll (notice .verticalAccepted s.clock.time (some (.num c.number)) (some (.num v.index))
          (w.mean.map Param.num))) .ok (.accepted w x.q x.a)
      else reply s .incomplete (.missing (missingFractions m v.points))
  | _ => refuse s .wrongState

/-- REDO (R151). -/
def redo (p : Port) (keepDepth : Code Bool) : State → Answer := asHolder p fun c s =>
  match c.phase with
  | .rest (.review v) =>
    let w := { v with points := [], method := none, angle := none }
    match keepDepth with
    | .outside => refuse s .badValue
    | .named true => reply (s.setPhase c (.rest (.points w))) .ok .empty
    | .named false => reply (s.setPhase c (.rest (.sounding { w with depth := none }))) .ok .empty
  | _ => refuse s .wrongState

/-! ### Closing the run -/

/-- The number of interior verticals of the list (R152). -/
def interiorCount (vs : List Vertical) : Nat := (vs.filter (fun v => decide (v.kind = .interior))).length

/-- MARK_EDGE with side END, its checks in the order of R152. The last interior vertical is finalised, then the end edge
(R165). -/
def markEdgeEnd (p : Port) (depth factor : Int) : State → Answer := asHolder p fun c s =>
  match c.phase with
  | .rest .ready =>
    let vs := s.run.verticals
    let d := clampMarked 0 30000 depth
    let k := clampMarked 0 1000 factor
    let e := edgeVertical s .endEdge vs.length d.mm k.mm
    if interiorCount vs < 3 then refuse s .tooFew
    else if beyond c.direction vs e.station.mm then
      let x := Sums.finalise (Sums.finalise ⟨vs ++ [e], c.qSum, c.aSum⟩ (vs.length - 1)) vs.length
      reply (s.setSums { c with phase := .finished, heldStage := c.heldStage || s.readStage.heldStage } x)
        (okStatus (d.clamped || k.clamped)) (.accepted ((x.verticals[vs.length]?).getD e) x.q x.a)
    else refuse s .outOfOrder
  | _ => refuse s .wrongState

/-- CLOSE_RUN (R153). -/
def closeRun (p : Port) : State → Answer := asHolder p fun c s =>
  match c.phase with
  | .finished => reply (s.endRun c (closedResult s c) .closed) .ok (.result (closedResult s c))
  | _ => refuse s .wrongState

/-- The cableway and the RETRIEVE line when a run is abandoned: EXPOSING hands a discard, RETRIEVING releases the line (R154). -/
def State.abandonWork (s : State) (ph : RunPhase) : State :=
  match ph with
  | .exposing _ _ => s.discardExposure
  | .retrieving _ => s.setRetrieve false
  | _ => s

/-- ABANDON_RUN (R154). -/
def abandonRun (p : Port) : State → Answer := asHolder p fun c s =>
  reply ((s.abandonWork c.phase).endRun c (abandonedResult s c) .abandoned) .ok .empty

/-! ### Retrieve -/

/-- The RETRIEVE notice posted to the holder, or to every port while the run is UNHELD (R155). -/
def State.postRetrieve (s : State) (c : RunContext) (time : Nat) (entered : Option RunState) : State :=
  let n := notice .retrieve time (some (.num c.number)) (some (.run c.phase.state)) (entered.map Param.run)
  match c.holder with
  | some p => s.postTo p n
  | none => s.postAll n

/-- The entry into RETRIEVING with its return state (R106, R155). -/
def State.enterRetrieving (s : State) (c : RunContext) (r : Rest) : State :=
  (s.setCtx { c with phase := .retrieving r, retrieveMark := true }).setRetrieve true

/-- A retrieve request from the warning unit, at the close time of a minute close (R129, R155). -/
def State.retrieve (s : State) (time : Nat) : State :=
  match s.run.ctx with
  | none => s
  | some c =>
    match c.phase with
    | .opened => s.postRetrieve c time none
    | .finished => s.postRetrieve c time none
    | .retrieving _ => s.postRetrieve c time none
    | .rest r => (s.enterRetrieving c r).postRetrieve c time (some r.state)
    | .exposing v f =>
      match s.cableway.exposure with
      | some x =>
        let r := pointResult s.cfg.meters x x.elapsed true true
        ((s.endExposure r).enterRetrieving c (.points (v.addPoint (s.newPoint x r f)))).postRetrieve c time (some .points)
      | none => (s.enterRetrieving c (.points v)).postRetrieve c time (some .points)

/-- RESUME_RUN (R156). -/
def resumeRun (p : Port) : State → Answer := asHolder p fun c s =>
  match c.phase with
  | .retrieving r =>
    if s.cfg.stopLevel.toNat ≤ s.warning.level.toNat then refuse s .levelTooHigh
    else reply ((s.setPhase c (.rest r)).setRetrieve false) .ok (.resumed r.state)
  | _ => refuse s .wrongState

/-! ### Settings and reading -/

/-- SET_RUN_SETTINGS (R157). -/
def setRunSettings (stopLevel : Nat) : State → Answer := unlessSaving fun s =>
  match stepOf stopLevel with
  | none => refuse s .badValue
  | some k => reply { s with cfg := { s.cfg with stopLevel := k } } .ok .empty

/-- GET_RUN_SETTINGS (R157). -/
def getRunSettings (s : State) : Answer := reply s .ok (.runSettings s.cfg.stopLevel)

/-- GET_RUN (R158). -/
def runReport (s : State) : RunReport :=
  let work := s.run.ctx.bind (fun c => c.phase.work)
  { state := s.runState, ctx := s.run.ctx, work := work, complete := work.map Vertical.complete,
    listCount := s.run.verticals.length, lastVertical := (s.run.verticals.getLast?).map (fun v => (v.index, v.station.mm)),
    counter := s.run.counter, stopLevel := s.cfg.stopLevel }

/-- GET_RUN (R158). -/
def getRun (s : State) : Answer := reply s .ok (.run (runReport s))

end Sys2Proof.Machine
end

