-- ==== Sys2Proof/Machine/Warning.lean ====
section
/-! DEFINITION. The warning unit (04_flood_warning_levels_and_triggers.md, R62 to R83, and
05_action_table_and_acknowledgment.md, R84 to R99): level changes, the taking of an action entry, the five steps of a minute
close, the pending acknowledgment, and the requests of both chapters. -/

namespace Sys2Proof.Machine

open Sys2Proof

/-! ### Level changes -/

/-- The warning unit replaced. -/
def State.setWarning (s : State) (w : WarningUnit) : State := { s with warning := w }

/-- A level change: the level, its record and the stage counts, and its delivery to the signal output unit (R63, R109). -/
def State.changeLevel (s : State) (l : Level) (time : Nat) (way : LevelWay) : State :=
  (s.setWarning { s.warning with level := l, lastChange := ⟨time, way⟩, up := 0, down := 0 }).endTests

/-! ### Taking an action entry -/

/-- The entry of a level and a class, as the table stands (R84). -/
def State.entryOf (s : State) (l : Level) (cls : TriggerClass) : ActionEntry := (s.cfg.actions.get l).get cls

/-- Step 1 of an entry: a next level that differs from the level in force is a level change (R85). -/
def State.entryLevel (s : State) (next : Option Level) (time : Nat) : State :=
  match next with
  | none => s
  | some l => if l = s.warning.level then s else s.changeLevel l time .table

/-- Step 2 of an entry: the siren is handed first, then the beacon (R86). -/
def State.entryPatterns (s : State) (e : ActionEntry) : State := (s.handField .siren e.siren).handField .beacon e.beacon

/-- Step 3 of an entry: the log interval is handed with the level the entry leaves (R87). -/
def State.entryInterval (s : State) (i : Option Interval) : State :=
  match i with
  | none => s
  | some i => s.changeInterval i s.warning.level

/-- Step 4 of an entry: LEVEL_EVENT (R87). -/
def State.entryNotice (s : State) (post : Bool) (cls : TriggerClass) (before : Level) (time : Nat) : State :=
  if post then
    s.postAll (notice .levelEvent time (some (.cls cls)) (some (.level before)) (some (.level s.warning.level)))
  else s

/-- The seconds the deadline timer of a level is loaded with (R93, R95). -/
def State.ackSeconds (s : State) (l : Level) : Nat := (s.cfg.ack.get l).timeoutMin * 60

/-- A new pending record for the level in force, with ACK_DUE (R88, R93). -/
def State.openAck (s : State) (time : Nat) : State :=
  let l := s.warning.level
  let r : AckRecord := ⟨l, time, s.ackSeconds l, 0, 0⟩
  (s.setWarning { s.warning with ack := some r }).postAll
    (notice .ackDue time (some (.level l)) (some (.num r.timer)) (s.warning.ack.map (fun x => Param.level x.level)))

/-- A pending record cleared by an entry that changed the level, with ACK_WITHDRAWN (R88). -/
def State.withdrawAck (s : State) (time : Nat) : State :=
  match s.warning.ack with
  | none => s
  | some r =>
    (s.setWarning { s.warning with ack := none }).postAll
      (notice .ackWithdrawn time (some (.level r.level)) (some (.level s.warning.level)) (some (.num r.overdue)))

/-- Step 5 of an entry (R88). -/
def State.entryAck (s : State) (required changed : Bool) (time : Nat) : State :=
  if required then s.openAck time else if changed then s.withdrawAck time else s

/-- Step 6 of an entry (R89). -/
def State.entryRetrieve (s : State) (retrieve : Bool) (time : Nat) : State := if retrieve then s.retrieve time else s

/-- An action entry taken for a class at the level in force: the six steps in their order (R85 to R89). -/
def State.takeEntry (s : State) (cls : TriggerClass) (time : Nat) : State :=
  let before := s.warning.level
  let e := s.entryOf before cls
  let t := (((s.entryLevel e.next time).entryPatterns e).entryInterval e.interval).entryNotice e.notice cls before time
  (t.entryAck e.ack (decide (t.warning.level ≠ before)) time).entryRetrieve e.retrieve time

/-! ### The five steps of a minute close -/

/-- The part while it works through a minute close, and the classes raised so far (R65, R76). -/
structure Progress where
  state  : State
  raised : List Raised
deriving DecidableEq, Repr

/-- A class raised: its entry is taken at once (R65, R75). -/
def Progress.raise (x : Progress) (cls : TriggerClass) (time : Nat) : Progress :=
  let t := x.state.takeEntry cls time
  ⟨t, x.raised ++ [⟨cls, x.state.warning.level, t.warning.level⟩]⟩

/-- The warning unit of the part replaced while it works through a minute close. -/
def Progress.setWarning (x : Progress) (w : WarningUnit) : Progress := { x with state := x.state.setWarning w }

/-- Step 1: SENSOR_LOST or SENSOR_BACK (R66). -/
def stepSensor (c : Close) (x : Progress) : Progress :=
  let w := x.state.warning
  if c.sensor = .lost then
    if w.lostAtClose then x else (x.setWarning { w with lostAtClose := true }).raise .sensorLost c.mean.closeTime
  else
    if w.lostAtClose then (x.setWarning { w with lostAtClose := false }).raise .sensorBack c.mean.closeTime else x

/-- A counted close (R67). -/
def Close.counted (c : Close) : Bool := decide (c.sensor ≠ .lost) && c.mean.value.isSome

/-- Step 2: STAGE_UP (R68). -/
def stepUp (c : Close) (mean : Int) (x : Progress) : Progress :=
  let w := x.state.warning
  let cfg := x.state.cfg.warning
  match w.level.stepUp with
  | none => x
  | some k =>
    let n := if cfg.u.get k ≤ mean then w.up + 1 else 0
    if cfg.pu.get k ≤ n then (x.setWarning { w with up := 0 }).raise .stageUp c.mean.closeTime
    else x.setWarning { w with up := n }

/-- Step 3: STAGE_DOWN (R69). -/
def stepDown (c : Close) (mean : Int) (x : Progress) : Progress :=
  let w := x.state.warning
  let cfg := x.state.cfg.warning
  match w.level.stepDown with
  | none => x
  | some k =>
    let n := if mean < cfg.u.get k - cfg.h.get k then w.down + 1 else 0
    if cfg.pd.get k ≤ n then (x.setWarning { w with down := 0 }).raise .stageDown c.mean.closeTime
    else x.setWarning { w with down := n }

/-- Step 4: RATE_HIGH or RATE_NORMAL (R71, R72). -/
def stepRate (c : Close) (x : Progress) : Progress :=
  let w := x.state.warning
  let cfg := x.state.cfg.warning
  match c.rate, w.rateState with
  | none, _ => x
  | some r, .normal =>
    let n := if cfg.rHi ≤ r then w.rateHigh + 1 else 0
    if cfg.rHi ≤ r ∧ cfg.pr ≤ n then
      (x.setWarning { w with rateState := .high, rateHigh := 0, rateLow := 0 }).raise .rateHigh c.mean.closeTime
    else x.setWarning { w with rateHigh := n }
  | some r, .high =>
    let n := if r ≤ cfg.rLo then w.rateLow + 1 else 0
    if r ≤ cfg.rLo ∧ cfg.pr ≤ n then
      (x.setWarning { w with rateState := .normal, rateHigh := 0, rateLow := 0 }).raise .rateNormal c.mean.closeTime
    else x.setWarning { w with rateLow := n }

/-- The low threshold of flow (R73). -/
def WarningSettings.lowFlow (c : WarningSettings) : Int := roundDiv (c.qHi * (1000 - c.flowHyst)) 1000

/-- Step 5: FLOW_HIGH or FLOW_NORMAL (R73, R74). -/
def stepFlow (c : Close) (x : Progress) : Progress :=
  let w := x.state.warning
  let cfg := x.state.cfg.warning
  match c.rated, w.flowState with
  | none, _ => x
  | some r, .normal =>
    let n := if cfg.qHi ≤ r.q then w.flowHigh + 1 else 0
    if cfg.qHi ≤ r.q ∧ cfg.pq ≤ n then
      (x.setWarning { w with flowState := .high, flowHigh := 0, flowLow := 0 }).raise .flowHigh c.mean.closeTime
    else x.setWarning { w with flowHigh := n }
  | some r, .high =>
    let n := if r.q < cfg.lowFlow then w.flowLow + 1 else 0
    if r.q < cfg.lowFlow ∧ cfg.pq ≤ n then
      (x.setWarning { w with flowState := .normal, flowHigh := 0, flowLow := 0 }).raise .flowNormal c.mean.closeTime
    else x.setWarning { w with flowLow := n }

/-- Steps 2 to 5, passed over at a close that is not counted (R65, R67). -/
def countedSteps (c : Close) (x : Progress) : Progress :=
  match c.mean.value with
  | some v => if c.counted then stepFlow c (stepRate c (stepDown c v (stepUp c v x))) else x
  | none => x

/-- A minute close as the warning unit takes it, with the rated discharge it reads first (R48, R65). -/
def State.closeOf (s : State) (m : MinuteMean) (rate : Option Int) (sensor : SensorState) : Close :=
  ⟨m, rate, sensor, m.value.map (ratedDischarge s.cfg.bank)⟩

/-- A minute close taken by the warning unit: the five steps, then the evaluation record (R65, R76). -/
def State.evaluate (s : State) (m : MinuteMean) (rate : Option Int) (sensor : SensorState) : State :=
  let c := s.closeOf m rate sensor
  let x := countedSteps c (stepSensor c ⟨s, []⟩)
  x.state.setWarning { x.state.warning with evaluation := some ⟨c, c.counted, x.raised⟩ }

/-! ### The pending acknowledgment -/

/-- A pending record after a count of the station clock (R93). -/
def AckRecord.count (r : AckRecord) : AckRecord :=
  { r with timer := r.timer - 1, elapsed := raiseTo (two32 - 1) r.elapsed 1 }

/-- A deadline expiry: the count that brought the timer of a pending record to 0 (R95). -/
def State.deadlineExpiry (s : State) : State :=
  match s.warning.ack with
  | none => s
  | some r =>
    if r.timer = 0 then
      let n := raiseTo 255 r.overdue 1
      ((s.setWarning { s.warning with ack := some { r with overdue := n, timer := s.ackSeconds r.level } }).hand .siren
        (s.cfg.ack.get r.level).overdue).postAll
        (notice .ackOverdue s.clock.time (some (.level r.level)) (some (.num n)) (some (.num r.elapsed)))
    else s

/-- ACK (R94). -/
def ack (p : Port) (level : Nat) (s : State) : Answer :=
  match levelOf level, s.warning.ack with
  | none, _ => refuse s .badValue
  | some _, none => refuse s .nothingPending
  | some l, some r =>
    if r.level = l then
      reply (((s.setWarning { s.warning with ack := none }).hand .siren (s.cfg.ack.get l).acked).postAll
        (notice .acked s.clock.time (some (.level l)) (some (.port p)) (some (.num r.overdue)))) .ok
        (.acked l r.raised r.overdue)
    else reply s .stale (.stale r.level)

/-! ### Requests of the levels -/

/-- The pending record as GET_WARNING gives it, its deadline timer 1 to 3,600 (R81, R93). A record whose deadline expiry has fallen due
and is not yet taken is shown as it stood before that expiry, with 1 second left (log 6). -/
def AckRecord.shown (r : AckRecord) : AckRecord := { r with timer := max 1 r.timer }

/-- GET_WARNING: the up count and down count with what they count toward, and the records as they stand (R81). -/
def warningReport (s : State) : WarningReport :=
  let w := s.warning
  let c := s.cfg.warning
  { level := w.level, lastChange := w.lastChange,
    up := w.level.stepUp.map (fun k => ⟨w.up, c.u.get k, c.pu.get k⟩),
    down := w.level.stepDown.map (fun k => ⟨w.down, c.u.get k - c.h.get k, c.pd.get k⟩),
    rateState := w.rateState, rateHigh := w.rateHigh, rateLow := w.rateLow, flowState := w.flowState, flowHigh := w.flowHigh,
    flowLow := w.flowLow, flowThreshold := c.lowFlow, lostAtClose := w.lostAtClose,
    ack := w.ack.map AckRecord.shown, evaluation := w.evaluation }

/-- GET_WARNING (R81). -/
def getWarning (s : State) : Answer := reply s .ok (.warning (warningReport s))

/-- Every count set to 0; the states and the lost at last close flag keep their values (R77, step 4). -/
def WarningUnit.zeroCounts (w : WarningUnit) : WarningUnit :=
  { w with up := 0, down := 0, rateHigh := 0, rateLow := 0, flowHigh := 0, flowLow := 0 }

/-- The act of FORCE_LEVEL (R77). -/
def State.force (s : State) (p : Port) (l : Level) : State :=
  let t := s.changeLevel l s.clock.time .forced
  let u := (t.setWarning { t.warning with ack := none }).handLevelPatterns l
  (u.setWarning u.warning.zeroCounts).postAll
    (notice .levelForced s.clock.time (some (.level s.warning.level)) (some (.level l)) (some (.port p)))

/-- FORCE_LEVEL (R77). -/
def forceLevel (p : Port) (k : Nat) (s : State) : Answer :=
  match levelOf k with
  | none => refuse s .badValue
  | some l => reply (s.force p l) .ok .empty

/-- The up-thresholds put in order (R64). -/
def orderThresholds (u : PerStep Int) : PerStep Int :=
  let k1 := clamp (-9999) 99997 u.k1
  let k2 := clamp (k1 + 1) 99998 u.k2
  ⟨k1, k2, clamp (k2 + 1) 99999 u.k3⟩

/-- The up-thresholds with the fields present applied, and ordered when any is present; whether the ordering moved one (R64). -/
def newThresholds (f : PerStep (Option Int)) (old : PerStep Int) : PerStep Int × Bool :=
  let u : PerStep Int := ⟨f.k1.getD old.k1, f.k2.getD old.k2, f.k3.getD old.k3⟩
  if f.k1.isSome || f.k2.isSome || f.k3.isSome then (orderThresholds u, decide (orderThresholds u ≠ u)) else (old, false)

/-- The warning settings SET_WARNING_SETTINGS leaves with the level patterns as given, and whether a field was clamped. R_lo is
clamped after R_hi has its new value (R64, R79). -/
def newWarningSettings (a : WarningArgs) (c : WarningSettings) (siren beacon : PerLevel (Fin 8)) : WarningSettings × Bool :=
  let u := newThresholds a.u c.u
  let h := optClampSteps 0 2000 a.h c.h
  let pu := optCountSteps 1 30 a.pu c.pu
  let pd := optCountSteps 1 30 a.pd c.pd
  let rHi := optClamp 1 1319976 a.rHi c.rHi
  let rLo := clampMarked (-1319976) rHi.mm (a.rLo.getD c.rLo)
  let pr := optCount 1 30 a.pr c.pr
  let qHi := optClamp 1 10000000 a.qHi c.qHi
  let fh := optClamp 0 500 a.flowHyst c.flowHyst
  let pq := optCount 1 30 a.pq c.pq
  ({ u := u.1, h := h.1, pu := pu.1, pd := pd.1, rHi := rHi.mm, rLo := rLo.mm, pr := pr.1, qHi := qHi.mm, flowHyst := fh.mm,
     pq := pq.1, siren := siren, beacon := beacon },
   u.2 || h.2 || pu.2 || pd.2 || rHi.clamped || rLo.clamped || pr.2 || qHi.clamped || fh.clamped || pq.2)

/-- SET_WARNING_SETTINGS (R64, R79). -/
def setWarningSettings (a : WarningArgs) : State → Answer := unlessSaving fun s =>
  let c := s.cfg.warning
  match optPatterns a.siren c.siren, optPatterns a.beacon c.beacon with
  | some siren, some beacon =>
    let r := newWarningSettings a c siren beacon
    reply { s with cfg := { s.cfg with warning := r.1 } } (okStatus r.2) (.warningSet r.1)
  | _, _ => refuse s .badValue

/-- GET_WARNING_SETTINGS (R79). -/
def getWarningSettings (s : State) : Answer := reply s .ok (.warningSettings s.cfg.warning s.cfg.warning.lowFlow)

/-! ### Requests of the action table and the acknowledgment settings -/

/-- The action entry a SET_ACTION writes; absent when a field is not one of its values (R84, R92, R189). -/
def actionOf (a : ActionArgs) : Option ActionEntry :=
  match optField levelOf a.next, optField patternOf a.siren, optField patternOf a.beacon, optField intervalOf a.interval,
    a.notice, a.ack, a.retrieve with
  | some next, some siren, some beacon, some interval, .named notice, .named ack, .named retrieve =>
    some { next := next, siren := siren, beacon := beacon, interval := interval, notice := notice, ack := ack,
           retrieve := retrieve }
  | _, _, _, _, _, _, _ => none

/-- The action table with one entry replaced (R92). -/
def State.setEntry (s : State) (l : Level) (cls : TriggerClass) (e : ActionEntry) : State :=
  { s with cfg := { s.cfg with actions := s.cfg.actions.set l ((s.cfg.actions.get l).set cls e) } }

/-- SET_ACTION (R92). -/
def setAction (level : Nat) (cls : Code TriggerClass) (a : ActionArgs) : State → Answer := unlessSaving fun s =>
  match levelOf level, cls, actionOf a with
  | some l, .named c, some e => reply (s.setEntry l c e) .ok (.action e)
  | _, _, _ => refuse s .badValue

/-- GET_ACTION (R92). -/
def getAction (level : Nat) (cls : Code TriggerClass) (s : State) : Answer :=
  match levelOf level, cls with
  | some l, .named c => reply s .ok (.action (s.entryOf l c))
  | _, _ => refuse s .badValue

/-- The acknowledgment settings of one level with a timeout field applied and its patterns as given (R98). -/
def ackSettingOf (timeout : Option Int) (old : AckSetting) (acked overdue : Fin 8) : AckSetting × Bool :=
  let t := optCount 1 60 timeout old.timeoutMin
  (⟨t.1, acked, overdue⟩, t.2)

/-- The acknowledged siren patterns in force. -/
def ackedPatterns (t : PerLevel AckSetting) : PerLevel (Fin 8) := ⟨t.l0.acked, t.l1.acked, t.l2.acked, t.l3.acked⟩

/-- The overdue siren patterns in force. -/
def overduePatterns (t : PerLevel AckSetting) : PerLevel (Fin 8) := ⟨t.l0.overdue, t.l1.overdue, t.l2.overdue, t.l3.overdue⟩

/-- SET_ACK_SETTINGS (R98). -/
def setAckSettings (a : AckArgs) : State → Answer := unlessSaving fun s =>
  let c := s.cfg.ack
  match optPatterns a.acked (ackedPatterns c), optPatterns a.overdue (overduePatterns c) with
  | some k, some o =>
    let l0 := ackSettingOf a.timeout.l0 c.l0 k.l0 o.l0
    let l1 := ackSettingOf a.timeout.l1 c.l1 k.l1 o.l1
    let l2 := ackSettingOf a.timeout.l2 c.l2 k.l2 o.l2
    let l3 := ackSettingOf a.timeout.l3 c.l3 k.l3 o.l3
    let t : PerLevel AckSetting := ⟨l0.1, l1.1, l2.1, l3.1⟩
    reply { s with cfg := { s.cfg with ack := t } } (okStatus (l0.2 || l1.2 || l2.2 || l3.2)) (.ackSettings t)
  | _, _ => refuse s .badValue

/-- GET_ACK_SETTINGS (R98). -/
def getAckSettings (s : State) : Answer := reply s .ok (.ackSettings s.cfg.ack)

end Sys2Proof.Machine
end

