-- ==== Sys2Proof/Machine/Clock.lean ====
section
/-! DEFINITION. The events that fall on the counts of the station clock (R24, R31) and SET_CLOCK (R26): what a count raises, the
sample expiry it brings under main power, and the minute close of a boundary sample. -/

namespace Sys2Proof.Machine

open Sys2Proof

/-! ### Minute close -/

/-- A minute close: the six steps of R31, the last of which is the evaluation of the warning unit. -/
def State.closeMinute (s : State) : State :=
  let m := minuteMean s.log.acc s.clock.time
  let ring := joinRing s.log.ring m
  let rate := closeRate m ring s.cfg.log.w
  let e := gatherMean s.log.entry m s.clock.unset s.run.ctx.isSome
  let l := { s.log with acc := emptyAccumulator, closeDue := false, ring := ring, rate := rate, lastMean := some m, entry := e }
  (({ s with log := l }).boundaryEntry m.closeTime).evaluate m rate (s.log.acc.sensor.getD s.sensing.sensorState)

/-- MINUTE_CLOSE: it is taken once for each boundary sample; where no close is due it does not occur (R28, log 8). -/
def minuteClose (s : State) : State := if s.log.closeDue then s.closeMinute else s

/-! ### Clock counts -/

/-- What fell due at the last count and was not taken by its own row, taken before the clock counts again (log 6): the idle
expiry, the deadline expiry and the minute close. -/
def State.settle (s : State) : State := minuteClose (s.idleExpiry.deadlineExpiry)

/-- What the station clock and the counts that follow it become at a count under main power (R24, R25, R51, R93, R136). -/
def State.countAll (s : State) : State :=
  { s with
    clock := s.clock.count
    run := { s.run with ctx := s.run.ctx.map RunContext.count }
    rating := s.rating.count
    warning := { s.warning with ack := s.warning.ack.map AckRecord.count } }

/-- The stage log unit takes the sample of an expiry; at a station minute boundary a close falls due (R27, R28). -/
def State.takeSample (s : State) : State :=
  { s with log := { s.log with
      acc := s.log.acc.take s.sensing.record.sample s.sensing.sensorState
      closeDue := decide (s.clock.time % 60 = 0) } }

/-- A count of the station clock (R24): under main power it brings one sample expiry with the new station time; on backup power
the clock alone counts. -/
def stationClockCount (s : State) : State :=
  if s.powered then (s.settle.countAll.senseSecond).takeSample else { s with clock := s.clock.count }

/-! ### SET_CLOCK -/

/-- SET_CLOCK (R26). What the last count left due and bears that count's station time, a deadline expiry and a minute close, is taken
first, as that count was taken first (R95, log 7). -/
def setClock (t : Nat) (s : State) : Answer :=
  match s.run.ctx with
  | some _ => refuse s .runOpen
  | none => reply ((minuteClose s.deadlineExpiry).resetClock (wire32 t)) .ok (.clockSet s.clock.time (wire32 t))

end Sys2Proof.Machine
end

