-- ==== Sys2Proof/Machine/Ports.lean ====
section
/-! DEFINITION. The port unit (10_station_ports.md, R175 to R192): the check, the frames as bytes, the beginning of an exchange,
and the requests of the chapter. The end of an exchange, which takes requests of every block, is in Requests.lean. -/

namespace Sys2Proof.Machine

open Sys2Proof

/-! ### The check -/

/-- One bit shifted through the check register (R176). -/
def crcShift (r : BitVec 16) : BitVec 16 := if r.msb then (r <<< 1) ^^^ 0x1021#16 else r <<< 1

/-- One byte taken by the check register, most significant bit first (R176). -/
def crcByte (r : BitVec 16) (b : Byte) : BitVec 16 :=
  crcShift (crcShift (crcShift (crcShift (crcShift (crcShift (crcShift (crcShift (r ^^^ (b.setWidth 16 <<< 8)))))))))

/-- The check of some bytes: the register starts at all ones (R176). -/
def crc (bs : List Byte) : BitVec 16 := bs.foldl crcByte 0xFFFF#16

/-- A check as it is sent, most significant byte first (R176). -/
def checkBytes (c : BitVec 16) : List Byte := [c.extractLsb' 8 8, c.extractLsb' 0 8]

/-- Bytes followed by their check. -/
def withCheck (bs : List Byte) : List Byte := bs ++ checkBytes (crc bs)

/-! ### Frames as bytes -/

/-- The six low bits of the status byte (R192). -/
def Status.code : Status → Byte
  | .ok => 0x10
  | .okClamped => 0x11
  | .badFrame => 0x20
  | .shortFrame => 0x21
  | .unknownRequest => 0x22
  | .badLength => 0x23
  | .badValue => 0x24
  | .busy => 0x25
  | .notHolder => 0x30
  | .heldByOther => 0x31
  | .wrongState => 0x32
  | .stale => 0x33
  | .nothingPending => 0x34
  | .tooFew => 0x35
  | .outOfOrder => 0x36
  | .full => 0x37
  | .incomplete => 0x38
  | .runOpen => 0x39
  | .levelTooHigh => 0x3A
  | .invalidTable => 0x3B

/-- The status byte of a response with its two marks (R192). -/
def statusByte (r : Response) : Byte :=
  r.status.code ||| (if r.replaced then 0x80#8 else 0x00#8) ||| (if r.long then 0x40#8 else 0x00#8)

/-- A four-byte field, most significant byte first. -/
def wordBytes (w : Word32) : List Byte :=
  [w.extractLsb' 24 8, w.extractLsb' 16 8, w.extractLsb' 8 8, w.extractLsb' 0 8]

/-- The place of a port in its list (R192). -/
def portCode : Port → Nat
  | .a => 0
  | .b => 1
  | .c => 2

/-- The place of a trigger class in the list of R84 (R192). -/
def classCode : TriggerClass → Nat
  | .sensorLost => 0
  | .sensorBack => 1
  | .stageUp => 2
  | .stageDown => 3
  | .rateHigh => 4
  | .rateNormal => 5
  | .flowHigh => 6
  | .flowNormal => 7

/-- The place of a sensor state in the list OK, HOLDING, LOST (R192). -/
def SensorState.code : SensorState → Nat
  | .ok => 0
  | .holding => 1
  | .lost => 2

/-- The place of a run state in the list of R133 (R192), which is taken for the return state of a RETRIEVE notice too (log 21). -/
def RunState.code : RunState → Nat
  | .idle => 0
  | .opened => 1
  | .ready => 2
  | .sounding => 3
  | .points => 4
  | .exposing => 5
  | .review => 6
  | .retrieving => 7
  | .finished => 8

/-- The 32 bits of a notice parameter: a number as it stands, in two's complement where negative, and a named value as its place
in the list its entry gives (R192, log 21). -/
def Param.word : Param → Word32
  | .num n => BitVec.ofInt 32 n
  | .flag b => if b then 1 else 0
  | .port p => BitVec.ofNat 32 (portCode p)
  | .level l => BitVec.ofNat 32 l.toNat
  | .cls c => BitVec.ofNat 32 (classCode c)
  | .sensor s => BitVec.ofNat 32 s.code
  | .run s => BitVec.ofNat 32 s.code
  | .lostEntered => 0
  | .lostLeft => 1
  | .disagreeSet => 2
  | .disagreeCleared => 3
  | .closed => 0
  | .abandoned => 1
  | .powerOn => 0
  | .restart => 1

/-- A parameter field; an absent parameter is sent as 0 (R192). -/
def paramBytes (p : Option Param) : List Byte := wordBytes ((p.map Param.word).getD 0)

/-- The flags byte of a notice: LOST_AFTER, then the presence of the three parameters (R192). The spec gives the four high bits no
value; they are sent as 0 (DESIGN CHOICE, log 39). -/
def Notice.flags (n : Notice) : Byte :=
  (if n.lostAfter then 0x01#8 else 0x00#8) ||| (if n.p1.isSome then 0x02#8 else 0x00#8) |||
    (if n.p2.isSome then 0x04#8 else 0x00#8) ||| (if n.p3.isSome then 0x08#8 else 0x00#8)

/-- A notice record as it is sent (R192). -/
def Notice.bytes (n : Notice) : List Byte :=
  [BitVec.ofNat 8 n.kind.code, n.flags] ++ wordBytes (BitVec.ofNat 32 n.time) ++ paramBytes n.p1 ++ paramBytes n.p2 ++
    paramBytes n.p3

/-- Bytes cut or filled with zeros to a length. -/
def fitTo (n : Nat) (bs : List Byte) : List Byte := (bs ++ List.replicate n 0).take n

/-- A notice mask as it is sent: four bytes, with the kind of code k at bit k - 1 (R192). -/
def maskBytes (m : BitVec 18) : List Byte := wordBytes (m.setWidth 32)

/-- The payload of GET_PORT_STATUS: each port's notice mask in its four bytes, among parts whose layout is free, 56 bytes at the most
(R187, R192, log 4). -/
def portStatusPayload (self : Port) (ports : PerPort PortReport) : List Byte :=
  let room := Config.maxPayload - 12
  let p0 := (Config.portStatusPart self ports 0).take room
  let p1 := (Config.portStatusPart self ports 1).take (room - p0.length)
  let p2 := (Config.portStatusPart self ports 2).take (room - p0.length - p1.length)
  let p3 := (Config.portStatusPart self ports 3).take (room - p0.length - p1.length - p2.length)
  p0 ++ maskBytes ports.a.mask ++ p1 ++ maskBytes ports.b.mask ++ p2 ++ maskBytes ports.c.mask ++ p3

/-- The payload of a response. READ_NOTICE's and the masks of GET_PORT_STATUS are those of R192; the others are free, within the
lengths the spec gives (log 4). -/
def Body.payload : Body → List Byte
  | .empty => []
  | .notice left none => [BitVec.ofNat 8 left]
  | .notice left (some n) => BitVec.ofNat 8 left :: n.bytes
  | .stage r => fitTo Config.stagePayload (Config.payloadLayout (.stage r))
  | .saved g n => (Config.payloadLayout (.saved g n)).take Config.stagePayload
  | .portStatus self ports => portStatusPayload self ports
  | b => (Config.payloadLayout b).take Config.maxPayload

/-- The bytes of a frame the part shifts out (R176, R177, R192). -/
def Frame.bytes : Frame → List Byte
  | .null => withCheck [0x00, 0x00, 0x00]
  | .pending echo => withCheck [0x01, echo, 0x00]
  | .response r => withCheck ([statusByte r, r.echo, BitVec.ofNat 8 r.body.payload.length] ++ r.body.payload)

/-- The bytes shifted out while the master clocks n: first those of the outgoing frame, then fill bytes of 0x00 (R175). -/
def Frame.shifted (out : Frame) (n : Nat) : List Byte := fitTo n out.bytes

/-! ### Exchanges -/

/-- The outgoing frame fixed at the beginning of an exchange (R175, R181). -/
def PortState.outgoing (q : PortState) : Frame :=
  match q.inProgress, q.slot with
  | some echo, _ => .pending echo
  | none, some r => .response r
  | none, none => .null

/-- EXCHANGE_BEGIN (R175). While an exchange is under way select cannot be asserted again, so the event has no effect
(log 28). -/
def exchangeBegin (p : Port) (s : State) : State :=
  match (s.port p).exchange with
  | some _ => s
  | none => s.setPort p { s.port p with exchange := some ⟨(s.port p).outgoing, []⟩ }

/-- The port state when select is released after `moved` bytes: as many bytes were shifted out, and the slot is emptied when the last
byte of a response from it was among them (R175, R182). -/
def PortState.release (q : PortState) (out : Frame) (moved : Nat) : PortState :=
  let r := { q with exchange := none, shiftedOut := out.shifted moved }
  match out with
  | .response x => if (Frame.response x).bytes.length ≤ moved then { r with slot := none } else r
  | _ => r

/-- A frame refused at the frame or dispatch level: its answer is placed and nothing else changes (R177, R178). -/
def State.refuseFrame (s : State) (p : Port) (code : Byte) (st : Status) (long : Bool) : State :=
  s.place p ⟨st, false, long, code, .empty⟩

/-! ### Requests -/

/-- READ_NOTICE (R184). -/
def readNotice (p : Port) (s : State) : Answer :=
  match (s.port p).queue with
  | [] => reply s .ok (.notice 0 none)
  | n :: rest => reply (s.setPort p { s.port p with queue := rest }) .ok (.notice rest.length (some n))

/-- CLEAR_PORT (R60, R138, R188). -/
def clearPort (p : Port) (s : State) : Answer :=
  let t := (s.setPort p { s.port p with slot := none, queue := [] }).unhold p
  reply (if t.rating.claim = some p then { t with rating := t.rating.release } else t) .ok .empty

/-- SET_NOTICE_MASK (R186, R192). -/
def setNoticeMask (p : Port) (mask : Word32) : State → Answer := unlessSaving fun s =>
  if mask.toNat < 2 ^ 18 then
    reply { s with cfg := { s.cfg with masks := s.cfg.masks.set p (mask.setWidth 18) } } .ok .empty
  else refuse s .badValue

/-- What GET_PORT_STATUS tells of one port (R187). -/
def portReport (s : State) (q : Port) : PortReport :=
  { slotFull := (s.port q).slot.isSome, inProgress := (s.port q).inProgress, queued := (s.port q).queue.length,
    anyLost := (s.port q).queue.any Notice.lostAfter, mask := s.cfg.masks.get q, lastRequest := (s.port q).lastRequest,
    holdsRun := decide ((s.run.ctx.bind RunContext.holder) = some q), holdsRating := decide (s.rating.claim = some q) }

/-- GET_PORT_STATUS (R187). -/
def getPortStatus (p : Port) (s : State) : Answer :=
  reply s .ok (.portStatus p ⟨portReport s .a, portReport s .b, portReport s .c⟩)

end Sys2Proof.Machine
end

