-- ==== Sys2Proof/Machine/Store.lean ====
section
/-! DEFINITION. The settings store, retained memory, power and restart (11_settings_store_retained_memory_and_restart.md, R193 to
R198), with the start values each chapter gives. -/

namespace Sys2Proof.Machine

open Sys2Proof

/-! ### Saving -/

/-- The code of SAVE_SETTINGS (R191). -/
def saveCode : Byte := 0x08

/-- SAVE_SETTINGS (R194). A taken save is answered at its completion, so it places nothing now (R180). `long` is the mark its
response will carry. -/
def saveSettings (p : Port) (long : Bool) (s : State) : Answer :=
  if s.saving then refuse s .busy
  else
    ({ s.setPort p { s.port p with inProgress := some saveCode } with
        save := some ⟨p, s.rating.generation, s.cfg.bank.length, long⟩
        store := ⟨false, s.cfg⟩ }, none)

/-- SAVE_COMPLETION (R194). Without a save in progress it does not occur (log 8). -/
def saveCompletion (s : State) : State :=
  match s.save with
  | none => s
  | some x =>
    let t := { s with save := none, store := { s.store with valid := true } }
    let u := t.setPort x.port { t.port x.port with inProgress := none }
    (u.place x.port ⟨.ok, false, x.long, saveCode, .saved x.generation x.points⟩).postAll
      (notice .settingsSaved s.clock.time (some (.port x.port)) (some (.num x.generation)) none)

/-! ### Power -/

/-- MAIN_POWER_LOSS: a save ends without its completion, and the store stays INVALID; the rest stands until power-on (R195,
log 9). A minute close or an expiry that is due and not yet taken is lost with the power (R44; DESIGN CHOICE, log 40). -/
def mainPowerLoss (s : State) : State :=
  { s with powered := false, save := none, ports := s.ports.map (fun q => { q with inProgress := none }) }

/-- The settings that load at power-on (R193). -/
def State.loadedSettings (s : State) : Settings := if s.store.valid then s.store.settings else factorySettings

/-- The items of retained memory that are not in a block of their own (R196). -/
structure Retained where
  clock      : Clock
  level      : Level
  entries    : List LogEntry
  nextSeq    : Nat
  cursors    : PerPort Cursor
  results    : List RunResult
  counter    : Nat
  generation : Nat
deriving DecidableEq, Repr

/-- Retained memory as it stands (R196). -/
def State.retained (s : State) : Retained :=
  { clock := s.clock, level := s.warning.level, entries := s.log.entries, nextSeq := s.log.nextSeq, cursors := s.log.cursors,
    results := s.run.results, counter := s.run.counter, generation := s.rating.generation }

/-- Retained memory when it is cleared (R196). -/
def clearedRetained : Retained :=
  { clock := clearedClock, level := .normal, entries := [], nextSeq := 1, cursors := clearedCursors, results := [],
    counter := 0, generation := 0 }

/-- A port after power-on (R190). -/
def startPort : PortState :=
  { exchange := none, slot := none, inProgress := none, queue := [], lastRequest := none, shiftedOut := [] }

/-- Every block at its state after power-on, with the level patterns of the restored level handed (R197, step 3). -/
def State.startBlocks (s : State) (cfg : Settings) (r : Retained) (float traverse sounding : LevelPair) : State :=
  ({ powered := true, cfg := cfg, store := s.store, save := none, retainedMark := true, clock := r.clock,
     sensing := startSensing (startQuad float) r.clock.time,
     log := startLog cfg.log.defaultInterval r.entries r.nextSeq r.cursors, rating := startRating r.generation,
     warning := startWarning r.level r.clock.time, outputs := idleOutputs, cableway := startCableway traverse sounding,
     run := startRun r.counter r.results, ports := ⟨startPort, startPort, startPort⟩, pending := s.pending }
    : State).handLevelPatterns r.level

/-- A notice posted to every port when a condition of start-up holds (R197, step 4). -/
def State.postWhen (s : State) (cond : Bool) (n : Notice) : State := if cond then s.postAll n else s

/-- POWER_ON (R197). Retained memory passes its check when backup power held and its contents agree with the integrity mark
(R196, log 10). -/
def powerOn (backupHeld : Bool) (float traverse sounding : LevelPair) (s : State) : State :=
  let kept := backupHeld && s.retainedMark
  let r := if kept then s.retained else clearedRetained
  let t := s.startBlocks s.loadedSettings r float traverse sounding
  ((t.postWhen (!s.store.valid) (bareNotice .settingsDefaulted r.clock.time)).postWhen (!kept)
    (bareNotice .retainedLost r.clock.time)).postAll (restartedAtPowerOn r.level r.clock.time)

/-! ### Restart -/

/-- The blocks after a station restart: what each chapter keeps is kept (R23, R44, R61, R83, R99, R111, R132, R160, R174, R190,
R198). -/
def State.restartBlocks (s : State) : State :=
  ({ s with
      save := none
      sensing := startSensing s.sensing.float s.clock.time
      log := startLog s.cfg.log.defaultInterval s.log.entries s.log.nextSeq s.log.cursors
      rating := startRating s.rating.generation
      warning := startWarning s.warning.level s.clock.time
      outputs := idleOutputs
      cableway := { s.cableway with exposure := none, lastPoint := none }
      run := startRun s.run.counter s.run.results
      ports := s.ports.map (fun q => { startPort with lastRequest := q.lastRequest, shiftedOut := q.shiftedOut })
    }).handLevelPatterns s.warning.level

/-- RESTART (R198). No response is placed; the requesting port learns of the restart from RESTARTED. A minute close or an expiry that
is due and not yet taken is dropped (R44; DESIGN CHOICE, log 40). -/
def restart (p : Port) (s : State) : Answer :=
  ((s.restartBlocks).postAll
    (notice .restarted s.clock.time (some (.level s.warning.level)) (some .restart) (some (.port p))), none)

end Sys2Proof.Machine
end

