-- ==== Sys2Proof/Machine/Requests.lean ====
section
/-! DEFINITION. The request catalogue (R191): the port, the code and the handler of every request, and the end of an exchange, at
which a frame that passes the checks of R178 is taken. -/

namespace Sys2Proof.Machine

open Sys2Proof

/-- A request as the port unit hands it to the block that owns its state: the port, the code byte (R191), and what the block does
with it; the flag is the LONG mark its response will carry (R180). -/
structure Request where
  port : Port
  code : Byte
  act  : Bool → State → Answer

/-- The request a command is; none for an event, and for NULL, which no block takes (R179, R191). -/
def requestOf (i : Instr) : Option Request :=
  match i with
  | .stationClockCount => none
  | .minuteClose => none
  | .floatEncoderTransition _ => none
  | .pressCharacterArrival _ _ => none
  | .pressIdleGap => none
  | .traverseTransition _ => none
  | .soundingTransition _ => none
  | .meterClosure _ => none
  | .exposureExpiry _ => none
  | .phaseExpiry _ _ => none
  | .idleExpiry => none
  | .deadlineExpiry => none
  | .saveCompletion => none
  | .powerOn _ _ _ _ => none
  | .mainPowerLoss => none
  | .exchangeBegin _ => none
  | .exchangeEnd _ _ => none
  | .null _ => none
  | .pressLineReturnsHigh => none
  | .readNotice p => some ⟨p, 0x01, fun _ => readNotice p⟩
  | .clearPort p => some ⟨p, 0x02, fun _ => clearPort p⟩
  | .setNoticeMask p mask => some ⟨p, 0x03, fun _ => setNoticeMask p mask⟩
  | .getPortStatus p => some ⟨p, 0x04, fun _ => getPortStatus p⟩
  | .saveSettings p => some ⟨p, 0x08, fun long => saveSettings p long⟩
  | .restart p => some ⟨p, 0x09, fun _ => restart p⟩
  | .getStage p => some ⟨p, 0x10, fun _ => getStage⟩
  | .setFloatStage p v => some ⟨p, 0x11, fun _ => setFloatStage v⟩
  | .setPressStage p v => some ⟨p, 0x12, fun _ => setPressStage v⟩
  | .setSensing p args => some ⟨p, 0x13, fun _ => setSensing args⟩
  | .getSensing p => some ⟨p, 0x14, fun _ => getSensing⟩
  | .getClock p => some ⟨p, 0x20, fun _ => getClock⟩
  | .setClock p t => some ⟨p, 0x21, fun _ => setClock t⟩
  | .readLog p count => some ⟨p, 0x22, fun _ => readLog p count⟩
  | .advanceLog p n => some ⟨p, 0x23, fun _ => advanceLog p n⟩
  | .seekLog p seq => some ⟨p, 0x24, fun _ => seekLog p seq⟩
  | .getLogStatus p => some ⟨p, 0x25, fun _ => getLogStatus p⟩
  | .getTrend p => some ⟨p, 0x26, fun _ => getTrend⟩
  | .setLogSettings p w interval => some ⟨p, 0x27, fun _ => setLogSettings w interval⟩
  | .getLogSettings p => some ⟨p, 0x28, fun _ => getLogSettings⟩
  | .ratingQuery p bank h => some ⟨p, 0x30, fun _ => ratingQuery bank h⟩
  | .ratingBegin p => some ⟨p, 0x31, fun _ => ratingBegin p⟩
  | .ratingPoint p index h q => some ⟨p, 0x32, fun _ => ratingPoint p index h q⟩
  | .ratingTruncate p count => some ⟨p, 0x33, fun _ => ratingTruncate p count⟩
  | .ratingCommit p => some ⟨p, 0x34, fun _ => ratingCommit p⟩
  | .ratingCancel p => some ⟨p, 0x35, fun _ => ratingCancel p⟩
  | .readRating p bank first => some ⟨p, 0x36, fun _ => readRating bank first⟩
  | .getRatingStatus p => some ⟨p, 0x37, fun _ => getRatingStatus⟩
  | .getWarning p => some ⟨p, 0x40, fun _ => getWarning⟩
  | .forceLevel p k => some ⟨p, 0x41, fun _ => forceLevel p k⟩
  | .setWarningSettings p args => some ⟨p, 0x42, fun _ => setWarningSettings args⟩
  | .getWarningSettings p => some ⟨p, 0x43, fun _ => getWarningSettings⟩
  | .ack p level => some ⟨p, 0x48, fun _ => ack p level⟩
  | .setAction p level cls args => some ⟨p, 0x49, fun _ => setAction level cls args⟩
  | .getAction p level cls => some ⟨p, 0x4A, fun _ => getAction level cls⟩
  | .setAckSettings p args => some ⟨p, 0x4B, fun _ => setAckSettings args⟩
  | .getAckSettings p => some ⟨p, 0x4C, fun _ => getAckSettings⟩
  | .getOutputs p => some ⟨p, 0x50, fun _ => getOutputs⟩
  | .outputTest p out pattern bursts => some ⟨p, 0x51, fun _ => outputTest p out pattern bursts⟩
  | .setPattern p number onMs offMs burst pauseMs => some ⟨p, 0x52, fun _ => setPattern number onMs offMs burst pauseMs⟩
  | .getPattern p number => some ⟨p, 0x53, fun _ => getPattern number⟩
  | .readPosition p => some ⟨p, 0x60, fun _ => readPosition⟩
  | .setInitialPoint p v => some ⟨p, 0x61, fun _ => setInitialPoint v⟩
  | .surfaceMark p => some ⟨p, 0x62, fun _ => surfaceMark⟩
  | .setMeter p index c count segs => some ⟨p, 0x63, fun _ => setMeter index c count segs⟩
  | .getMeter p index => some ⟨p, 0x64, fun _ => getMeter index⟩
  | .setCounterSettings p traverse sounding deadMs => some ⟨p, 0x65, fun _ => setCounterSettings traverse sounding deadMs⟩
  | .getCounterSettings p => some ⟨p, 0x66, fun _ => getCounterSettings⟩
  | .getRun p => some ⟨p, 0x70, fun _ => getRun⟩
  | .openRun p meter target coeff => some ⟨p, 0x71, fun _ => openRun p meter target coeff⟩
  | .takeRun p => some ⟨p, 0x72, fun _ => takeRun p⟩
  | .markEdgeStart p side depth factor => some ⟨p, 0x73, fun _ => markEdgeStart p side depth factor⟩
  | .markEdgeEnd p depth factor => some ⟨p, 0x73, fun _ => markEdgeEnd p depth factor⟩
  | .beginVertical p => some ⟨p, 0x74, fun _ => beginVertical p⟩
  | .markBed p => some ⟨p, 0x75, fun _ => markBed p⟩
  | .startPoint p fraction => some ⟨p, 0x76, fun _ => startPoint p fraction⟩
  | .stopPoint p => some ⟨p, 0x77, fun _ => stopPoint p⟩
  | .endVertical p method angle => some ⟨p, 0x78, fun _ => endVertical p method angle⟩
  | .alter p args => some ⟨p, 0x79, fun _ => alter p args⟩
  | .accept p => some ⟨p, 0x7A, fun _ => accept p⟩
  | .redo p keepDepth => some ⟨p, 0x7B, fun _ => redo p keepDepth⟩
  | .closeRun p => some ⟨p, 0x7C, fun _ => closeRun p⟩
  | .abandonRun p => some ⟨p, 0x7D, fun _ => abandonRun p⟩
  | .resumeRun p => some ⟨p, 0x7E, fun _ => resumeRun p⟩
  | .setRunSettings p stopLevel => some ⟨p, 0x7F, fun _ => setRunSettings stopLevel⟩
  | .getRunSettings p => some ⟨p, 0x80, fun _ => getRunSettings⟩
  | .readResult p age => some ⟨p, 0x88, fun _ => readResult age⟩
  | .readVertical p index point => some ⟨p, 0x89, fun _ => readVertical index point⟩

/-- The requests that carry no field, by code (R191); each admits length 0 alone (R178, check 8). -/
def fieldlessRequest (p : Port) (code : Byte) : Option Instr :=
  match code.toNat with
  | 0x01 => some (.readNotice p)
  | 0x02 => some (.clearPort p)
  | 0x04 => some (.getPortStatus p)
  | 0x08 => some (.saveSettings p)
  | 0x09 => some (.restart p)
  | 0x10 => some (.getStage p)
  | 0x14 => some (.getSensing p)
  | 0x20 => some (.getClock p)
  | 0x25 => some (.getLogStatus p)
  | 0x26 => some (.getTrend p)
  | 0x28 => some (.getLogSettings p)
  | 0x31 => some (.ratingBegin p)
  | 0x34 => some (.ratingCommit p)
  | 0x35 => some (.ratingCancel p)
  | 0x37 => some (.getRatingStatus p)
  | 0x40 => some (.getWarning p)
  | 0x43 => some (.getWarningSettings p)
  | 0x4C => some (.getAckSettings p)
  | 0x50 => some (.getOutputs p)
  | 0x60 => some (.readPosition p)
  | 0x62 => some (.surfaceMark p)
  | 0x66 => some (.getCounterSettings p)
  | 0x70 => some (.getRun p)
  | 0x72 => some (.takeRun p)
  | 0x74 => some (.beginVertical p)
  | 0x75 => some (.markBed p)
  | 0x77 => some (.stopPoint p)
  | 0x7A => some (.accept p)
  | 0x7C => some (.closeRun p)
  | 0x7D => some (.abandonRun p)
  | 0x7E => some (.resumeRun p)
  | 0x80 => some (.getRunSettings p)
  | _ => none

/-! ### Fields of a request payload -/

/-- The four bytes of a notice mask, most significant first; none where there are not four (R192). -/
def maskOf (payload : List Byte) : Option Word32 :=
  match payload with
  | [b3, b2, b1, b0] => some (b3 ++ b2 ++ b1 ++ b0)
  | _ => none

/-- The fields that a payload carries for a request, in the forms the entries give; their places in the payload are free (log 3). -/
structure Fields where
  code    : Byte
  payload : List Byte
deriving DecidableEq, Repr

/-- A number. -/
def Fields.int (x : Fields) (k : Nat) : Int := Config.fieldValue x.code x.payload k

/-- A number that is never clamped (R189). -/
def Fields.nat (x : Fields) (k : Nat) : Nat := unclampedNumber (x.int k)

/-- A number of a field whose entry admits every value of w bits: the time of SET_CLOCK, the count of ADVANCE_LOG and the sequence
number of SEEK_LOG (R26, R39, R40). -/
def Fields.word (x : Fields) (w k : Nat) : Nat := (BitVec.ofInt w (x.int k)).toNat

/-- An optional number. -/
def Fields.optInt (x : Fields) (k : Nat) : Option Int :=
  if Config.fieldPresent x.code x.payload k then some (x.int k) else none

/-- An optional number that is never clamped (R189). -/
def Fields.optNat (x : Fields) (k : Nat) : Option Nat := (x.optInt k).map unclampedNumber

/-- A value of a list of named values, or a value outside it. -/
def Fields.named {α : Type} (x : Fields) (k : Nat) (values : List α) : Code α :=
  match values[x.nat k]? with
  | some v => .named v
  | none => .outside

/-- An optional value of a list of named values, or a value outside it. -/
def Fields.optNamed {α : Type} (x : Fields) (k : Nat) (values : List α) : Option (Code α) :=
  if Config.fieldPresent x.code x.payload k then some (x.named k values) else none

/-- One optional number for each step, from field k on. -/
def Fields.steps (x : Fields) (k : Nat) : PerStep (Option Int) := ⟨x.optInt k, x.optInt (k + 1), x.optInt (k + 2)⟩

/-- One optional number for each level, from field k on. -/
def Fields.levels (x : Fields) (k : Nat) : PerLevel (Option Int) :=
  ⟨x.optInt k, x.optInt (k + 1), x.optInt (k + 2), x.optInt (k + 3)⟩

/-- One optional pattern for each level, from field k on. -/
def Fields.patterns (x : Fields) (k : Nat) : PerLevel (Option Nat) :=
  ⟨x.optNat k, x.optNat (k + 1), x.optNat (k + 2), x.optNat (k + 3)⟩

/-- The segments of SET_METER: `left` of them from field k on, with an upper bound for every one but the last (R121). -/
def Fields.segments (x : Fields) (k left : Nat) : List SegmentArg :=
  match left with
  | 0 => []
  | 1 => [⟨none, x.int k, x.int (k + 1)⟩]
  | n + 2 => ⟨some (x.int (k + 2)), x.int k, x.int (k + 1)⟩ :: x.segments (k + 3) (n + 1)

/-- The trigger classes in the order of R84. -/
def classList : List TriggerClass :=
  [.sensorLost, .sensorBack, .stageUp, .stageDown, .rateHigh, .rateNormal, .flowHigh, .flowNormal]

/-- MARK_EDGE by its side: the rows of the two sides, the START row for a side that is neither (R142, R152). -/
def Fields.markEdge (x : Fields) (p : Port) : Instr :=
  match x.nat 0 with
  | 0 => .markEdgeStart p .start (x.int 1) (x.int 2)
  | 1 => .markEdgeEnd p (x.int 1) (x.int 2)
  | _ => .markEdgeStart p .other (x.int 1) (x.int 2)

/-- The requests that carry fields, by code, with the fields their entries give (R191, log 3). -/
def fieldedRequest (p : Port) (code : Byte) (payload : List Byte) : Option Instr :=
  let x : Fields := ⟨code, payload⟩
  match code.toNat with
  | 0x03 => some (.setNoticeMask p ((maskOf payload).getD 0))
  | 0x11 => some (.setFloatStage p (x.int 0))
  | 0x12 => some (.setPressStage p (x.int 0))
  | 0x13 => some (.setSensing p ⟨x.optNamed 0 [.float, .press], x.optInt 1, x.optInt 2, x.optInt 3, x.optInt 4, x.optInt 5, x.optInt 6⟩)
  | 0x21 => some (.setClock p (x.word 32 0))
  | 0x22 => some (.readLog p (x.nat 0))
  | 0x23 => some (.advanceLog p (x.word 16 0))
  | 0x24 => some (.seekLog p (x.word 32 0))
  | 0x27 => some (.setLogSettings p (x.optInt 0) (x.optNat 1))
  | 0x30 => some (.ratingQuery p (x.named 0 [.principal, .alternate]) (x.int 1))
  | 0x32 => some (.ratingPoint p (x.nat 0) (x.int 1) (x.int 2))
  | 0x33 => some (.ratingTruncate p (x.nat 0))
  | 0x36 => some (.readRating p (x.named 0 [.principal, .alternate]) (x.nat 1))
  | 0x41 => some (.forceLevel p (x.nat 0))
  | 0x42 => some (.setWarningSettings p ⟨x.steps 0, x.steps 3, x.steps 6, x.steps 9, x.optInt 12, x.optInt 13, x.optInt 14,
      x.optInt 15, x.optInt 16, x.optInt 17, x.patterns 18, x.patterns 22⟩)
  | 0x48 => some (.ack p (x.nat 0))
  | 0x49 => some (.setAction p (x.nat 0) (x.named 1 classList)
      ⟨x.optNat 2, x.optNat 3, x.optNat 4, x.optNat 5, x.named 6 [true, false], x.named 7 [false, true], x.named 8 [false, true]⟩)
  | 0x4A => some (.getAction p (x.nat 0) (x.named 1 classList))
  | 0x4B => some (.setAckSettings p ⟨x.levels 0, x.patterns 4, x.patterns 8⟩)
  | 0x51 => some (.outputTest p (x.named 0 [.siren, .beacon]) (x.nat 1) (x.int 2))
  | 0x52 => some (.setPattern p (x.nat 0) (x.int 1) (x.int 2) (x.int 3) (x.int 4))
  | 0x53 => some (.getPattern p (x.nat 0))
  | 0x61 => some (.setInitialPoint p (x.int 0))
  | 0x63 => some (.setMeter p (x.nat 0) (x.int 1) (x.nat 2) (x.segments 3 (min 4 (x.nat 2))))
  | 0x64 => some (.getMeter p (x.nat 0))
  | 0x65 => some (.setCounterSettings p (x.optInt 0) (x.optInt 1) (x.optInt 2))
  | 0x71 => some (.openRun p (x.nat 0) (x.int 1) (x.optInt 2))
  | 0x73 => some (x.markEdge p)
  | 0x76 => some (.startPoint p (x.nat 0))
  | 0x78 => some (.endVertical p (x.named 0 [.one, .two, .surf]) (x.int 1))
  | 0x79 => some (.alter p ⟨x.optInt 0, x.optNamed 1 [.one, .two, .surf], x.optInt 2, x.optNat 3, x.optNat 4⟩)
  | 0x7B => some (.redo p (x.named 0 [true, false]))
  | 0x7F => some (.setRunSettings p (x.nat 0))
  | 0x88 => some (.readResult p (x.nat 0))
  | 0x89 => some (.readVertical p (x.nat 0) (x.optNat 1))
  | _ => none

/-- The code is one of the catalogue; NULL is told apart before this check (R178, check 7). -/
def knownCode (code : Byte) : Bool := (fieldlessRequest .a code).isSome || (fieldedRequest .a code []).isSome

/-- A payload length is one that the fields of a request allow (R178, check 8): 0 for a request without fields, 4 for a notice mask
(R192), and what Config leaves free for every other request (log 3). It depends on the code and the length alone. -/
def lengthFits (code : Byte) (n : Nat) : Bool :=
  if (fieldlessRequest .a code).isSome then decide (n = 0)
  else if code = 0x03 then decide (n = 4)
  else Config.lengthAllowed code n

/-- The request of a code and payload of the catalogue; none where the length is not one the request's fields allow (R178,
check 8). -/
def parseRequest (p : Port) (code : Byte) (payload : List Byte) : Option Instr :=
  if lengthFits code payload.length then (fieldlessRequest p code).orElse (fun _ => fieldedRequest p code payload) else none

/-- What the port unit does with the bytes of an exchange (R178): nothing, an answer of its own, or a request to be taken. -/
inductive Received where
  | nothing
  | refused (code : Byte) (st : Status) (long : Bool)
  | request (code : Byte) (payload : List Byte) (long : Bool)
deriving DecidableEq, Repr

/-- Checks 1 to 7 of R178 over the bytes received, in their order. The answer carries LONG when the declared frame was followed by
surplus bytes, a length above 56 included (log 30). -/
def examine (bs : List Byte) : Received :=
  match bs with
  | [] => .nothing
  | [code] => .refused code .shortFrame false
  | code :: len :: rest =>
    let n := len.toNat
    let long := decide (n + 2 < rest.length)
    if Config.maxPayload < n then .refused code .badLength long
    else if rest.length < n + 2 then .refused code .shortFrame false
    else if (rest.drop n).take 2 ≠ checkBytes (crc (code :: len :: rest.take n)) then .refused code .badFrame long
    else if code = 0 then (if n = 0 then .nothing else .refused code .badLength long)
    else if knownCode code then .request code (rest.take n) long
    else .refused code .unknownRequest long

/-- The frame of an exchange that was not PENDING examined and taken (R178, R180). -/
def State.receive (s : State) (p : Port) (bs : List Byte) : State :=
  match examine bs with
  | .nothing => s
  | .refused code st long => s.refuseFrame p code st long
  | .request code payload long =>
    match (parseRequest p code payload).bind requestOf with
    | none => s.refuseFrame p code .badLength long
    | some r => s.takeRequest p code long (r.act long)

/-- EXCHANGE_END (R175, R178, R181). The bytes are those the master clocked in; without an exchange under way the event does not
occur (log 8). -/
def exchangeEnd (p : Port) (bytes : List Byte) (s : State) : State :=
  match (s.port p).exchange with
  | none => s
  | some x =>
    let bs := x.shifter ++ bytes
    let t := s.setPort p ((s.port p).release x.outgoing bs.length)
    match x.outgoing with
    | .pending _ => t
    | _ => t.receive p bs

end Sys2Proof.Machine
end

