-- ==== Sys2Proof/Machine/Commands.lean ====
section
/-! DEFINITION. The meaning of every command: one definition for each constructor of `Instr`. An event acts under main power; a
request row is the taking of that request from an exact frame (R180), which acts by the handler of the block that owns it. -/

namespace Sys2Proof.Machine

open Sys2Proof

/-- The outcome of a command: every command of the part has a next state (log 34). -/
abbrev Out := Host.Outcome State Fault Refusal

/-- An event at a block (00_scope.md, "Events"): it occurs only under main power (log 9). -/
def event (f : State → State) (s : State) : Out := .next (s.whenPowered f)

/-- A request taken on a port from a frame without surplus bytes (R180). -/
def taken (p : Port) (code : Byte) (f : State → Answer) (s : State) : Out := .next (s.takeRequest p code false f)

/-! ### Events -/

/-- STATION_CLOCK_COUNT (R24). It occurs with and without main power. -/
def execStationClockCount (s : State) : Out := .next (stationClockCount s)

/-- MINUTE_CLOSE (R31). -/
def execMinuteClose (s : State) : Out := event minuteClose s

/-- FLOAT_ENCODER_TRANSITION (R2). -/
def execFloatEncoderTransition (pair : LevelPair) (s : State) : Out := event (floatTransition pair) s

/-- PRESS_CHARACTER_ARRIVAL (R5). -/
def execPressCharacterArrival (data : Byte) (stopHigh : Bool) (s : State) : Out :=
  event (fun t => { t with sensing := characterArrival data stopHigh t.sensing }) s

/-- PRESS_IDLE_GAP (R6). -/
def execPressIdleGap (s : State) : Out := event (fun t => { t with sensing := idleGap t.sensing }) s

/-- TRAVERSE_TRANSITION (R112). -/
def execTraverseTransition (pair : LevelPair) (s : State) : Out := event (traverseTransition pair) s

/-- SOUNDING_TRANSITION (R115). -/
def execSoundingTransition (pair : LevelPair) (s : State) : Out := event (soundingTransition pair) s

/-- METER_CLOSURE (R119). -/
def execMeterClosure (ms : Nat) (s : State) : Out := event (meterClosure ms) s

/-- EXPOSURE_EXPIRY (R124). -/
def execExposureExpiry (a : ExpiryArgs) (s : State) : Out := event (exposureExpiry a.ms a.waits) s

/-- PHASE_EXPIRY (R102). -/
def execPhaseExpiry (out : Output) (ms : Nat) (s : State) : Out := event (fun t => t.phaseExpiry out ms) s

/-- IDLE_EXPIRY (R51). -/
def execIdleExpiry (s : State) : Out := event State.idleExpiry s

/-- DEADLINE_EXPIRY (R95). -/
def execDeadlineExpiry (s : State) : Out := event State.deadlineExpiry s

/-- SAVE_COMPLETION (R194). -/
def execSaveCompletion (s : State) : Out := event saveCompletion s

/-- POWER_ON (R197). It is the event that ends the absence of main power. -/
def execPowerOn (backupHeld : Bool) (floatPair traversePair soundingPair : LevelPair) (s : State) : Out :=
  .next (powerOn backupHeld floatPair traversePair soundingPair s)

/-- MAIN_POWER_LOSS (R195). -/
def execMainPowerLoss (s : State) : Out := event mainPowerLoss s

/-- EXCHANGE_BEGIN (R175). -/
def execExchangeBegin (p : Port) (s : State) : Out := event (exchangeBegin p) s

/-- EXCHANGE_END (R178). -/
def execExchangeEnd (p : Port) (bytes : List Byte) (s : State) : Out := event (exchangeEnd p bytes) s

/-- NULL (R179). A NULL request is taken by no block, places nothing and does not change the last-request time. -/
def execNull (_p : Port) (s : State) : Out := .next s

/-- PRESS_LINE_RETURNS_HIGH (R4). -/
def execPressLineReturnsHigh (s : State) : Out := event (fun t => { t with sensing := lineHigh t.sensing }) s

/-! ### Requests -/

/-- READ_NOTICE (R184), code 0x01 (R191). -/
def execReadNotice (p : Port) (s : State) : Out := taken p 0x01 (readNotice p) s

/-- CLEAR_PORT (R188), code 0x02 (R191). -/
def execClearPort (p : Port) (s : State) : Out := taken p 0x02 (clearPort p) s

/-- SET_NOTICE_MASK (R186), code 0x03 (R191). -/
def execSetNoticeMask (p : Port) (mask : Word32) (s : State) : Out := taken p 0x03 (setNoticeMask p mask) s

/-- GET_PORT_STATUS (R187), code 0x04 (R191). -/
def execGetPortStatus (p : Port) (s : State) : Out := taken p 0x04 (getPortStatus p) s

/-- SAVE_SETTINGS (R194), code 0x08 (R191). -/
def execSaveSettings (p : Port) (s : State) : Out := taken p 0x08 (saveSettings p false) s

/-- RESTART (R198), code 0x09 (R191). -/
def execRestart (p : Port) (s : State) : Out := taken p 0x09 (restart p) s

/-- GET_STAGE (R22), code 0x10 (R191). -/
def execGetStage (p : Port) (s : State) : Out := taken p 0x10 getStage s

/-- SET_FLOAT_STAGE (R18), code 0x11 (R191). -/
def execSetFloatStage (p : Port) (v : Int) (s : State) : Out := taken p 0x11 (setFloatStage v) s

/-- SET_PRESS_STAGE (R19), code 0x12 (R191). -/
def execSetPressStage (p : Port) (v : Int) (s : State) : Out := taken p 0x12 (setPressStage v) s

/-- SET_SENSING (R20), code 0x13 (R191). -/
def execSetSensing (p : Port) (args : SensingArgs) (s : State) : Out := taken p 0x13 (setSensing args) s

/-- GET_SENSING (R20), code 0x14 (R191). -/
def execGetSensing (p : Port) (s : State) : Out := taken p 0x14 getSensing s

/-- GET_CLOCK (R25), code 0x20 (R191). -/
def execGetClock (p : Port) (s : State) : Out := taken p 0x20 getClock s

/-- SET_CLOCK (R26), code 0x21 (R191). -/
def execSetClock (p : Port) (t : Nat) (s : State) : Out := taken p 0x21 (setClock t) s

/-- READ_LOG (R38), code 0x22 (R191). -/
def execReadLog (p : Port) (count : Nat) (s : State) : Out := taken p 0x22 (readLog p count) s

/-- ADVANCE_LOG (R39), code 0x23 (R191). -/
def execAdvanceLog (p : Port) (n : Nat) (s : State) : Out := taken p 0x23 (advanceLog p n) s

/-- SEEK_LOG (R40), code 0x24 (R191). -/
def execSeekLog (p : Port) (seq : Nat) (s : State) : Out := taken p 0x24 (seekLog p seq) s

/-- GET_LOG_STATUS (R41), code 0x25 (R191). -/
def execGetLogStatus (p : Port) (s : State) : Out := taken p 0x25 (getLogStatus p) s

/-- GET_TREND (R42), code 0x26 (R191). -/
def execGetTrend (p : Port) (s : State) : Out := taken p 0x26 getTrend s

/-- SET_LOG_SETTINGS (R43), code 0x27 (R191). -/
def execSetLogSettings (p : Port) (w : Option Int) (interval : Option Nat) (s : State) : Out :=
  taken p 0x27 (setLogSettings w interval) s

/-- GET_LOG_SETTINGS (R43), code 0x28 (R191). -/
def execGetLogSettings (p : Port) (s : State) : Out := taken p 0x28 getLogSettings s

/-- RATING_QUERY (R49), code 0x30 (R191). -/
def execRatingQuery (p : Port) (bank : Code Bank) (h : Int) (s : State) : Out := taken p 0x30 (ratingQuery bank h) s

/-- RATING_BEGIN (R52), code 0x31 (R191). -/
def execRatingBegin (p : Port) (s : State) : Out := taken p 0x31 (ratingBegin p) s

/-- RATING_POINT (R53), code 0x32 (R191). -/
def execRatingPoint (p : Port) (index : Nat) (h q : Int) (s : State) : Out := taken p 0x32 (ratingPoint p index h q) s

/-- RATING_TRUNCATE (R54), code 0x33 (R191). -/
def execRatingTruncate (p : Port) (count : Nat) (s : State) : Out := taken p 0x33 (ratingTruncate p count) s

/-- RATING_COMMIT (R55), code 0x34 (R191). -/
def execRatingCommit (p : Port) (s : State) : Out := taken p 0x34 (ratingCommit p) s

/-- RATING_CANCEL (R56), code 0x35 (R191). -/
def execRatingCancel (p : Port) (s : State) : Out := taken p 0x35 (ratingCancel p) s

/-- READ_RATING (R58), code 0x36 (R191). -/
def execReadRating (p : Port) (bank : Code Bank) (first : Nat) (s : State) : Out := taken p 0x36 (readRating bank first) s

/-- GET_RATING_STATUS (R59), code 0x37 (R191). -/
def execGetRatingStatus (p : Port) (s : State) : Out := taken p 0x37 getRatingStatus s

/-- GET_WARNING (R81), code 0x40 (R191). -/
def execGetWarning (p : Port) (s : State) : Out := taken p 0x40 getWarning s

/-- FORCE_LEVEL (R77), code 0x41 (R191). -/
def execForceLevel (p : Port) (k : Nat) (s : State) : Out := taken p 0x41 (forceLevel p k) s

/-- SET_WARNING_SETTINGS (R79), code 0x42 (R191). -/
def execSetWarningSettings (p : Port) (args : WarningArgs) (s : State) : Out := taken p 0x42 (setWarningSettings args) s

/-- GET_WARNING_SETTINGS (R79), code 0x43 (R191). -/
def execGetWarningSettings (p : Port) (s : State) : Out := taken p 0x43 getWarningSettings s

/-- ACK (R94), code 0x48 (R191). -/
def execAck (p : Port) (level : Nat) (s : State) : Out := taken p 0x48 (ack p level) s

/-- SET_ACTION (R92), code 0x49 (R191). -/
def execSetAction (p : Port) (level : Nat) (cls : Code TriggerClass) (args : ActionArgs) (s : State) : Out :=
  taken p 0x49 (setAction level cls args) s

/-- GET_ACTION (R92), code 0x4A (R191). -/
def execGetAction (p : Port) (level : Nat) (cls : Code TriggerClass) (s : State) : Out :=
  taken p 0x4A (getAction level cls) s

/-- SET_ACK_SETTINGS (R98), code 0x4B (R191). -/
def execSetAckSettings (p : Port) (args : AckArgs) (s : State) : Out := taken p 0x4B (setAckSettings args) s

/-- GET_ACK_SETTINGS (R98), code 0x4C (R191). -/
def execGetAckSettings (p : Port) (s : State) : Out := taken p 0x4C getAckSettings s

/-- GET_OUTPUTS (R110), code 0x50 (R191). -/
def execGetOutputs (p : Port) (s : State) : Out := taken p 0x50 getOutputs s

/-- OUTPUT_TEST (R107), code 0x51 (R191). -/
def execOutputTest (p : Port) (out : Code Output) (pattern : Nat) (bursts : Int) (s : State) : Out :=
  taken p 0x51 (outputTest p out pattern bursts) s

/-- SET_PATTERN (R101), code 0x52 (R191). -/
def execSetPattern (p : Port) (number : Nat) (onMs offMs burst pauseMs : Int) (s : State) : Out :=
  taken p 0x52 (setPattern number onMs offMs burst pauseMs) s

/-- GET_PATTERN (R101), code 0x53 (R191). -/
def execGetPattern (p : Port) (number : Nat) (s : State) : Out := taken p 0x53 (getPattern number) s

/-- READ_POSITION (R131), code 0x60 (R191). -/
def execReadPosition (p : Port) (s : State) : Out := taken p 0x60 readPosition s

/-- SET_INITIAL_POINT (R114), code 0x61 (R191). -/
def execSetInitialPoint (p : Port) (v : Int) (s : State) : Out := taken p 0x61 (setInitialPoint v) s

/-- SURFACE_MARK (R117), code 0x62 (R191). -/
def execSurfaceMark (p : Port) (s : State) : Out := taken p 0x62 surfaceMark s

/-- SET_METER (R121), code 0x63 (R191). -/
def execSetMeter (p : Port) (index : Nat) (c : Int) (count : Nat) (segs : List SegmentArg) (s : State) : Out :=
  taken p 0x63 (setMeter index c count segs) s

/-- GET_METER (R121), code 0x64 (R191). -/
def execGetMeter (p : Port) (index : Nat) (s : State) : Out := taken p 0x64 (getMeter index) s

/-- SET_COUNTER_SETTINGS (R122), code 0x65 (R191). -/
def execSetCounterSettings (p : Port) (traverse sounding deadMs : Option Int) (s : State) : Out :=
  taken p 0x65 (setCounterSettings traverse sounding deadMs) s

/-- GET_COUNTER_SETTINGS (R122), code 0x66 (R191). -/
def execGetCounterSettings (p : Port) (s : State) : Out := taken p 0x66 getCounterSettings s

/-- GET_RUN (R158), code 0x70 (R191). -/
def execGetRun (p : Port) (s : State) : Out := taken p 0x70 getRun s

/-- OPEN_RUN (R139), code 0x71 (R191). -/
def execOpenRun (p : Port) (meter : Nat) (target : Int) (coeff : Option Int) (s : State) : Out :=
  taken p 0x71 (openRun p meter target coeff) s

/-- TAKE_RUN (R137), code 0x72 (R191). -/
def execTakeRun (p : Port) (s : State) : Out := taken p 0x72 (takeRun p) s

/-- MARK_EDGE_START (R142), code 0x73 (R191). -/
def execMarkEdgeStart (p : Port) (side : EdgeSide) (depth factor : Int) (s : State) : Out :=
  taken p 0x73 (markEdgeStart p side depth factor) s

/-- MARK_EDGE_END (R152), code 0x73 (R191). -/
def execMarkEdgeEnd (p : Port) (depth factor : Int) (s : State) : Out := taken p 0x73 (markEdgeEnd p depth factor) s

/-- BEGIN_VERTICAL (R143), code 0x74 (R191). -/
def execBeginVertical (p : Port) (s : State) : Out := taken p 0x74 (beginVertical p) s

/-- MARK_BED (R144), code 0x75 (R191). -/
def execMarkBed (p : Port) (s : State) : Out := taken p 0x75 (markBed p) s

/-- START_POINT (R145), code 0x76 (R191). -/
def execStartPoint (p : Port) (fraction : Nat) (s : State) : Out := taken p 0x76 (startPoint p fraction) s

/-- STOP_POINT (R146), code 0x77 (R191). -/
def execStopPoint (p : Port) (s : State) : Out := taken p 0x77 (stopPoint p) s

/-- END_VERTICAL (R147), code 0x78 (R191). -/
def execEndVertical (p : Port) (method : Code Method) (angle : Int) (s : State) : Out :=
  taken p 0x78 (endVertical p method angle) s

/-- ALTER (R148), code 0x79 (R191). -/
def execAlter (p : Port) (args : AlterArgs) (s : State) : Out := taken p 0x79 (alter p args) s

/-- ACCEPT (R150), code 0x7A (R191). -/
def execAccept (p : Port) (s : State) : Out := taken p 0x7A (accept p) s

/-- REDO (R151), code 0x7B (R191). -/
def execRedo (p : Port) (keepDepth : Code Bool) (s : State) : Out := taken p 0x7B (redo p keepDepth) s

/-- CLOSE_RUN (R153), code 0x7C (R191). -/
def execCloseRun (p : Port) (s : State) : Out := taken p 0x7C (closeRun p) s

/-- ABANDON_RUN (R154), code 0x7D (R191). -/
def execAbandonRun (p : Port) (s : State) : Out := taken p 0x7D (abandonRun p) s

/-- RESUME_RUN (R156), code 0x7E (R191). -/
def execResumeRun (p : Port) (s : State) : Out := taken p 0x7E (resumeRun p) s

/-- SET_RUN_SETTINGS (R157), code 0x7F (R191). -/
def execSetRunSettings (p : Port) (stopLevel : Nat) (s : State) : Out := taken p 0x7F (setRunSettings stopLevel) s

/-- GET_RUN_SETTINGS (R157), code 0x80 (R191). -/
def execGetRunSettings (p : Port) (s : State) : Out := taken p 0x80 getRunSettings s

/-- READ_RESULT (R172), code 0x88 (R191). -/
def execReadResult (p : Port) (age : Nat) (s : State) : Out := taken p 0x88 (readResult age) s

/-- READ_VERTICAL (R173), code 0x89 (R191). -/
def execReadVertical (p : Port) (index : Nat) (point : Option Nat) (s : State) : Out :=
  taken p 0x89 (readVertical index point) s

end Sys2Proof.Machine
end

