-- ==== Sys2Proof/Machine/Dispatch.lean ====
section
/-! DEFINITION. The dispatch of the commands: one direct call of a meaning for each constructor of `Instr`. -/

namespace Sys2Proof.Machine

open Sys2Proof

def exec (i : Instr) (s : State) : Host.Outcome State Fault Refusal :=
  match i with
  | .stationClockCount => Sys2Proof.Machine.execStationClockCount s
  | .minuteClose => Sys2Proof.Machine.execMinuteClose s
  | .floatEncoderTransition pair => Sys2Proof.Machine.execFloatEncoderTransition pair s
  | .pressCharacterArrival data stopHigh => Sys2Proof.Machine.execPressCharacterArrival data stopHigh s
  | .pressIdleGap => Sys2Proof.Machine.execPressIdleGap s
  | .traverseTransition pair => Sys2Proof.Machine.execTraverseTransition pair s
  | .soundingTransition pair => Sys2Proof.Machine.execSoundingTransition pair s
  | .meterClosure ms => Sys2Proof.Machine.execMeterClosure ms s
  | .exposureExpiry a => Sys2Proof.Machine.execExposureExpiry a s
  | .phaseExpiry out ms => Sys2Proof.Machine.execPhaseExpiry out ms s
  | .idleExpiry => Sys2Proof.Machine.execIdleExpiry s
  | .deadlineExpiry => Sys2Proof.Machine.execDeadlineExpiry s
  | .saveCompletion => Sys2Proof.Machine.execSaveCompletion s
  | .powerOn backupHeld floatPair traversePair soundingPair => Sys2Proof.Machine.execPowerOn backupHeld floatPair traversePair soundingPair s
  | .mainPowerLoss => Sys2Proof.Machine.execMainPowerLoss s
  | .exchangeBegin p => Sys2Proof.Machine.execExchangeBegin p s
  | .exchangeEnd p bytes => Sys2Proof.Machine.execExchangeEnd p bytes s
  | .null p => Sys2Proof.Machine.execNull p s
  | .readNotice p => Sys2Proof.Machine.execReadNotice p s
  | .clearPort p => Sys2Proof.Machine.execClearPort p s
  | .setNoticeMask p mask => Sys2Proof.Machine.execSetNoticeMask p mask s
  | .getPortStatus p => Sys2Proof.Machine.execGetPortStatus p s
  | .saveSettings p => Sys2Proof.Machine.execSaveSettings p s
  | .restart p => Sys2Proof.Machine.execRestart p s
  | .getStage p => Sys2Proof.Machine.execGetStage p s
  | .setFloatStage p v => Sys2Proof.Machine.execSetFloatStage p v s
  | .setPressStage p v => Sys2Proof.Machine.execSetPressStage p v s
  | .setSensing p args => Sys2Proof.Machine.execSetSensing p args s
  | .getSensing p => Sys2Proof.Machine.execGetSensing p s
  | .getClock p => Sys2Proof.Machine.execGetClock p s
  | .setClock p t => Sys2Proof.Machine.execSetClock p t s
  | .readLog p count => Sys2Proof.Machine.execReadLog p count s
  | .advanceLog p n => Sys2Proof.Machine.execAdvanceLog p n s
  | .seekLog p seq => Sys2Proof.Machine.execSeekLog p seq s
  | .getLogStatus p => Sys2Proof.Machine.execGetLogStatus p s
  | .getTrend p => Sys2Proof.Machine.execGetTrend p s
  | .setLogSettings p w interval => Sys2Proof.Machine.execSetLogSettings p w interval s
  | .getLogSettings p => Sys2Proof.Machine.execGetLogSettings p s
  | .ratingQuery p bank h => Sys2Proof.Machine.execRatingQuery p bank h s
  | .ratingBegin p => Sys2Proof.Machine.execRatingBegin p s
  | .ratingPoint p index h q => Sys2Proof.Machine.execRatingPoint p index h q s
  | .ratingTruncate p count => Sys2Proof.Machine.execRatingTruncate p count s
  | .ratingCommit p => Sys2Proof.Machine.execRatingCommit p s
  | .ratingCancel p => Sys2Proof.Machine.execRatingCancel p s
  | .readRating p bank first => Sys2Proof.Machine.execReadRating p bank first s
  | .getRatingStatus p => Sys2Proof.Machine.execGetRatingStatus p s
  | .getWarning p => Sys2Proof.Machine.execGetWarning p s
  | .forceLevel p k => Sys2Proof.Machine.execForceLevel p k s
  | .setWarningSettings p args => Sys2Proof.Machine.execSetWarningSettings p args s
  | .getWarningSettings p => Sys2Proof.Machine.execGetWarningSettings p s
  | .ack p level => Sys2Proof.Machine.execAck p level s
  | .setAction p level cls args => Sys2Proof.Machine.execSetAction p level cls args s
  | .getAction p level cls => Sys2Proof.Machine.execGetAction p level cls s
  | .setAckSettings p args => Sys2Proof.Machine.execSetAckSettings p args s
  | .getAckSettings p => Sys2Proof.Machine.execGetAckSettings p s
  | .getOutputs p => Sys2Proof.Machine.execGetOutputs p s
  | .outputTest p out pattern bursts => Sys2Proof.Machine.execOutputTest p out pattern bursts s
  | .setPattern p number onMs offMs burst pauseMs => Sys2Proof.Machine.execSetPattern p number onMs offMs burst pauseMs s
  | .getPattern p number => Sys2Proof.Machine.execGetPattern p number s
  | .readPosition p => Sys2Proof.Machine.execReadPosition p s
  | .setInitialPoint p v => Sys2Proof.Machine.execSetInitialPoint p v s
  | .surfaceMark p => Sys2Proof.Machine.execSurfaceMark p s
  | .setMeter p index c count segs => Sys2Proof.Machine.execSetMeter p index c count segs s
  | .getMeter p index => Sys2Proof.Machine.execGetMeter p index s
  | .setCounterSettings p traverse sounding deadMs => Sys2Proof.Machine.execSetCounterSettings p traverse sounding deadMs s
  | .getCounterSettings p => Sys2Proof.Machine.execGetCounterSettings p s
  | .getRun p => Sys2Proof.Machine.execGetRun p s
  | .openRun p meter target coeff => Sys2Proof.Machine.execOpenRun p meter target coeff s
  | .takeRun p => Sys2Proof.Machine.execTakeRun p s
  | .markEdgeStart p side depth factor => Sys2Proof.Machine.execMarkEdgeStart p side depth factor s
  | .markEdgeEnd p depth factor => Sys2Proof.Machine.execMarkEdgeEnd p depth factor s
  | .beginVertical p => Sys2Proof.Machine.execBeginVertical p s
  | .markBed p => Sys2Proof.Machine.execMarkBed p s
  | .startPoint p fraction => Sys2Proof.Machine.execStartPoint p fraction s
  | .stopPoint p => Sys2Proof.Machine.execStopPoint p s
  | .endVertical p method angle => Sys2Proof.Machine.execEndVertical p method angle s
  | .alter p args => Sys2Proof.Machine.execAlter p args s
  | .accept p => Sys2Proof.Machine.execAccept p s
  | .redo p keepDepth => Sys2Proof.Machine.execRedo p keepDepth s
  | .closeRun p => Sys2Proof.Machine.execCloseRun p s
  | .abandonRun p => Sys2Proof.Machine.execAbandonRun p s
  | .resumeRun p => Sys2Proof.Machine.execResumeRun p s
  | .setRunSettings p stopLevel => Sys2Proof.Machine.execSetRunSettings p stopLevel s
  | .getRunSettings p => Sys2Proof.Machine.execGetRunSettings p s
  | .readResult p age => Sys2Proof.Machine.execReadResult p age s
  | .readVertical p index point => Sys2Proof.Machine.execReadVertical p index point s
  | .pressLineReturnsHigh => Sys2Proof.Machine.execPressLineReturnsHigh s

end Sys2Proof.Machine
end

