-- ==== Sys2Proof/Safety.lean ====
section
/-! DEFINITION. The terms in which claims speak of the part: when a request is taken, what an answer leaves at a port, and the
invariants that every step keeps. -/

namespace Sys2Proof.Machine

open Sys2Proof

/-! ### Requests and answers -/

/-- A request is taken on a port: main power is present and the port has no request in progress (R180, R181). -/
def State.takes (s : State) (p : Port) : Prop := s.powered = true ∧ (s.port p).inProgress = none

/-- The state after an answer on a port: the last-request time is the station time before the request, and the slot holds the
response, REPLACED when an unread one lay there (R180, R182, R189). -/
def State.answered (s : State) (p : Port) (time : Nat) (code : Byte) (st : Status) (b : Body) : State :=
  s.setPort p { s.port p with
    lastRequest := some time, slot := some ⟨st, (s.port p).slot.isSome, false, code, b⟩ }

/-- The state after a refusal on a port: the answer carries no field and nothing else changes (R189). That a refusal for which the entry
names no field carries none is read from R177 (log 18). -/
def State.refusedOn (s : State) (p : Port) (code : Byte) (st : Status) : State :=
  s.answered p s.clock.time code st .empty

/-! ### Fields of a request -/

/-- The value an optional configuration field leaves: absent keeps the old one, present is brought to the nearest end of its range
(00_scope.md, "Configuration values"). -/
def inRangeOr (lo hi : Int) (field : Option Int) (old : Int) : Int :=
  match field with
  | none => old
  | some v => clamp lo hi v

/-- A field is present and outside its range, so that the answer is OK_CLAMPED (R189). -/
def outOfRange (lo hi : Int) (field : Option Int) : Bool := field.any (fun v => decide (v < lo ∨ hi < v))

/-- A value is outside its range. -/
def isOutside (lo hi v : Int) : Bool := decide (v < lo ∨ hi < v)

/-! ### Runs -/

/-- A port holds the open run (R134, R135). -/
def State.holds (s : State) (p : Port) (c : RunContext) : Prop := s.run.ctx = some c ∧ c.holder = some p

/-- The context after a run request of its holder: quiet count 0, last run-request time the station time (R136). -/
def RunContext.heard (c : RunContext) (time : Nat) : RunContext := { c with quiet := 0, lastRequest := time }

/-- The run states in which a run request that needs the claim is taken or is refused for a cause of its own (R133); none for every
other command. MARK_EDGE with a side that is neither START nor END is looked at in both states of MARK_EDGE. -/
def runStatesOf (i : Instr) : List RunState :=
  match i with
  | .markEdgeStart _ .start _ _ => [.opened]
  | .markEdgeStart _ .other _ _ => [.opened, .ready]
  | .markEdgeEnd _ _ _ => [.ready]
  | .beginVertical _ => [.ready]
  | .markBed _ => [.sounding]
  | .startPoint _ _ => [.points]
  | .stopPoint _ => [.exposing]
  | .endVertical _ _ _ => [.points]
  | .alter _ _ => [.review]
  | .accept _ => [.review]
  | .redo _ _ => [.review]
  | .closeRun _ => [.finished]
  | .abandonRun _ => [.opened, .ready, .sounding, .points, .exposing, .review, .retrieving, .finished]
  | .resumeRun _ => [.retrieving]
  | _ => []

/-- A RETRIEVE notice reaches the holder alone, or every port while the run is UNHELD (R155). -/
def State.postHolder (s : State) (c : RunContext) (n : Notice) : State :=
  match c.holder with
  | some p => s.postTo p n
  | none => s.postAll n

/-! ### Invariants -/

/-- Every notice queue holds at most 16 records (R183). -/
def QueuesBounded (s : State) : Prop := ∀ p : Port, (s.port p).queue.length ≤ 16

/-- The RETRIEVE line is asserted exactly while the run is RETRIEVING, and an exposure is RUNNING exactly while it is EXPOSING
(R106, R123, R133). -/
def LinesFollowRun (s : State) : Prop :=
  (s.outputs.retrieve = true ↔ s.runState = .retrieving) ∧ (s.cableway.exposure.isSome = true ↔ s.runState = .exposing)

/-- Up-thresholds in strictly ascending order within the reported stage range (R64). -/
def thresholdsOrdered (c : WarningSettings) : Prop := -9999 ≤ c.u.k1 ∧ c.u.k1 < c.u.k2 ∧ c.u.k2 < c.u.k3 ∧ c.u.k3 ≤ 99999

/-- The thresholds of the working settings and of the stored copy are in order (R64). -/
def ThresholdsOrdered (s : State) : Prop := thresholdsOrdered s.cfg.warning ∧ thresholdsOrdered s.store.settings.warning

/-- A point lies in the ranges of R46. -/
def RatingPoint.inRange (x : RatingPoint) : Prop := (-9999 ≤ x.h ∧ x.h ≤ 99999) ∧ (0 ≤ x.q ∧ x.q ≤ 10000000)

/-- A bank is valid by the three conditions of R46. -/
def BankValid (bank : List RatingPoint) : Prop :=
  2 ≤ bank.length ∧ bank.Pairwise (fun a b => a.h < b.h ∧ a.q ≤ b.q)

/-- A bank of at most 32 points within their ranges (R46). -/
def BankSized (bank : List RatingPoint) : Prop := bank.length ≤ 32 ∧ ∀ x ∈ bank, x.inRange

/-- The principal bank, in the working settings and in the stored copy, is valid, and every bank holds at most 32 points within
their ranges (R46). -/
def BanksSound (s : State) : Prop :=
  (BankValid s.cfg.bank ∧ BankSized s.cfg.bank) ∧ (BankValid s.store.settings.bank ∧ BankSized s.store.settings.bank) ∧
    BankSized s.rating.alternate

/-- A pending acknowledgment is for the level in force (R93). -/
def AckForLevel (s : State) : Prop := ∀ r, s.warning.ack = some r → r.level = s.warning.level

/-- The log memory: at most 8,192 entries whose sequence numbers run consecutively, from 1 at the lowest, up to one below the next
sequence number, with every cursor between the oldest and one past the newest (R36, R37). -/
def LogSound (s : State) : Prop :=
  s.log.entries.length ≤ 8192 ∧ s.log.nextSeq ≤ 4294967296 ∧ s.log.entries.length < s.log.nextSeq ∧
    s.log.entries.map LogEntry.seq = List.range' (s.log.nextSeq - s.log.entries.length) s.log.entries.length ∧
    ∀ p : Port, s.log.nextSeq - s.log.entries.length ≤ (s.log.cursors.get p).seq ∧ (s.log.cursors.get p).seq ≤ s.log.nextSeq

/-- While a save is in progress the store is INVALID and holds the working settings, and exactly the saving port has a request in
progress; without one, no port has (R181, R194, R195). -/
def SaveSound (s : State) : Prop :=
  (∀ x, s.save = some x → s.store = ⟨false, s.cfg⟩) ∧
    ∀ p : Port, (s.port p).inProgress = if s.save.map Save.port = some p then some 0x08 else none

/-- An engine's phase, line and pattern agree: IDLE is the phase of pattern 0, and the line is asserted in ON alone (R102). -/
def Engine.sound (e : Engine) : Prop := (e.phase = .idle ↔ e.pattern = 0) ∧ (e.line = true ↔ e.phase = .on)

/-- Both engines agree with their patterns, and an output test runs only at level NORMAL (R102, R107, R109). -/
def OutputsSound (s : State) : Prop :=
  (s.outputs.siren.engine.sound ∧ s.outputs.beacon.engine.sound) ∧
    (s.outputs.siren.test ≠ none ∨ s.outputs.beacon.test ≠ none → s.warning.level = .normal)

/-- The sum of the partial discharges of a list of verticals (R165). -/
def partialQSum (vs : List Vertical) : Int := (vs.map (fun v => v.partialQ.getD 0)).sum

/-- The sum of the partial areas of a list of verticals (R165). -/
def partialASum (vs : List Vertical) : Int := (vs.map (fun v => v.partialA.getD 0)).sum

/-- A vertical is finalised: both its partial values are present (R165). -/
def Vertical.finalised (v : Vertical) : Prop := v.partialQ ≠ none ∧ v.partialA ≠ none

/-- A vertical is not finalised: neither of its partial values is present (R165). -/
def Vertical.unfinalised (v : Vertical) : Prop := v.partialQ = none ∧ v.partialA = none

/-- The finalised sums follow the run state: in OPEN the list is empty, in FINISHED every vertical is finalised, in every other
state all but the last are, the vertical under work is not, and the sums are those of the finalised verticals (R165, R166). -/
def SumsSound (s : State) : Prop :=
  ∀ c, s.run.ctx = some c →
    (c.qSum = partialQSum s.run.verticals ∧ c.aSum = partialASum s.run.verticals) ∧
    (∀ v, c.phase.work = some v → v.unfinalised) ∧
    (c.phase = .opened → s.run.verticals = []) ∧
    (c.phase = .finished → ∀ v ∈ s.run.verticals, v.finalised) ∧
    (c.phase ≠ .opened → c.phase ≠ .finished →
      ∃ front last, s.run.verticals = front ++ [last] ∧ (∀ v ∈ front, v.finalised) ∧ last.unfinalised)

/-- Stations strictly monotonic in a direction. -/
def stationsOrdered (d : Direction) (xs : List Int) : Prop :=
  match d with
  | .ascending => xs.Pairwise (· < ·)
  | .descending => xs.Pairwise (· > ·)

/-- The stations of the list of an open run followed by that of the vertical under work. -/
def runStations (s : State) (c : RunContext) : List Int :=
  (s.run.verticals.map (fun v => v.station.mm)) ++ (c.phase.work.map (fun v => v.station.mm)).toList

/-- The verticals of an open run: at most 48 of them, at most 47 with the vertical under work before the end edge, stations strictly
monotonic in the run's direction, which is absent only before the first interior vertical is captured (R143, R152). -/
def StationsSound (s : State) : Prop :=
  ∀ c, s.run.ctx = some c →
    s.run.verticals.length ≤ 48 ∧ (c.phase ≠ .finished → (runStations s c).length ≤ 47) ∧
    (c.phase = .opened → s.run.verticals = [] ∧ c.direction = none) ∧
    match c.direction with
    | none => s.run.verticals.length ≤ 1 ∧ c.phase.work = none
    | some d => stationsOrdered d (runStations s c)

/-- The bounded memories: line buffer 16, trend ring 61, results ring 8 (R5, R29, R171). -/
def RingsBounded (s : State) : Prop :=
  s.sensing.receiver.buffer.length ≤ 16 ∧ s.log.ring.length ≤ 61 ∧ s.run.results.length ≤ 8

/-- A vertical holds at most 4 points, and at most 3 while an exposure brings it the next (R140, R145). -/
def PointsBounded (s : State) : Prop :=
  (∀ v ∈ s.run.verticals, v.points.length ≤ 4) ∧
    ∀ c, s.run.ctx = some c →
      (∀ v, c.phase.work = some v → v.points.length ≤ 4) ∧ ∀ v f, c.phase = .exposing v f → v.points.length ≤ 3

end Sys2Proof.Machine
end

