-- ==== Sys2Proof/Certificates/Slice0/Obligations.lean ====
section
/-! DEFINITION. The statements for the provers: one `def Obligations.<Name> : Prop` each, listed in OBLIGATIONS.json. -/

open Sys2Proof Sys2Proof.Machine

/-! ### The queue and every command -/

/-- A step takes the command at the front of the queue and is that command's meaning on the state with the queue's rest
(95_what_each_step_holds.md: each step whole and indivisible); on an empty queue the part idles (log 1, the model's choice). -/
def Obligations.StepTakesFrontCommand : Prop :=
  (∀ (c : Instr) (rest : List Instr) (s : State), step { s with pending := c :: rest } = exec c { s with pending := rest }) ∧
    ∀ s : State, step { s with pending := [] } = .next { s with pending := [] }

/-- Every command has a next state and leaves the queue as it is: no event or request of the part stops it (R189 answers a refused
request with a status; log 34). A request that arrives on a port with a request in progress is not taken, and without main power
nothing but a count of the clock and a power-on occurs (R181, R195; log 9). -/
def Obligations.EveryCommandHasNextState : Prop :=
  (∀ (c : Instr) (s : State), ∃ t, exec c s = .next t ∧ t.pending = s.pending) ∧
    (∀ (i : Instr) (r : Request) (s : State), requestOf i = some r → ¬ s.takes r.port → exec i s = .next s) ∧
    ∀ (i : Instr) (s : State), s.powered = false → i ≠ .stationClockCount →
      (∀ b x y z, i ≠ .powerOn b x y z) → exec i s = .next s

/-- The rounded quotient is a nearest integer to n / d, and an exact tie goes away from zero (R1). -/
def Obligations.RoundingIsNearest : Prop :=
  ∀ n d : Int, 0 < d →
    2 * |n - roundDiv n d * d| ≤ d ∧ (2 * |n - roundDiv n d * d| = d → |n| < |roundDiv n d| * d) ∧
      roundDiv (-n) d = -roundDiv n d

/-- A posting reaches every port by itself: a mask that excludes the kind drops it, a queue with room takes it at its newest end, and
a full queue of 16 keeps its records and sets LOST_AFTER on the newest. Nothing but the queues changes (R183). -/
def Obligations.NoticePosting : Prop :=
  ∀ (s : State) (n : Notice),
    (s.postAll n = { s with ports := (s.postAll n).ports }) ∧
    ∀ q : Port,
      (s.postAll n).port q = { s.port q with queue := ((s.postAll n).port q).queue } ∧
      ((s.cfg.masks.get q).getLsbD (n.kind.code - 1) = false → ((s.postAll n).port q).queue = (s.port q).queue) ∧
      ((s.cfg.masks.get q).getLsbD (n.kind.code - 1) = true → (s.port q).queue.length < 16 →
        ((s.postAll n).port q).queue = (s.port q).queue ++ [n]) ∧
      ((s.cfg.masks.get q).getLsbD (n.kind.code - 1) = true →
        ∀ (front : List Notice) (last : Notice), (s.port q).queue = front ++ [last] → front.length = 15 →
          ((s.postAll n).port q).queue = front ++ [{ last with lostAfter := true }])

/-! ### Invariants -/

/-- The state after reset meets every invariant of the part (R5, R29, R36, R37, R46, R64, R93, R102, R140, R165, R171, R183). What the
spec leaves open of that state is the model's choice: its values by log 11, and the settings an INVALID stored copy holds by log 12.
-/
def Obligations.ResetMeetsInvariants : Prop :=
  QueuesBounded State.reset ∧ RingsBounded State.reset ∧ LinesFollowRun State.reset ∧ ThresholdsOrdered State.reset ∧
    BanksSound State.reset ∧ AckForLevel State.reset ∧ OutputsSound State.reset ∧ LogSound State.reset ∧
    SaveSound State.reset ∧ SumsSound State.reset ∧ StationsSound State.reset ∧ PointsBounded State.reset

/-- Every step keeps the bounds of the bounded memories: notice queues 16, line buffer 16, trend ring 61, results ring 8, and 4 points
for a vertical, 3 while the next is taken; and every step keeps the RETRIEVE line asserted exactly while the run is RETRIEVING, and an
exposure RUNNING exactly while it is EXPOSING (R5, R29, R106, R123, R133, R140, R145, R171, R183). -/
def Obligations.StepKeepsBoundsAndLines : Prop :=
  (∀ s t : State, QueuesBounded s → RingsBounded s → step s = .next t → QueuesBounded t ∧ RingsBounded t) ∧
  (∀ s t : State, PointsBounded s → step s = .next t → PointsBounded t) ∧
  ∀ s t : State, LinesFollowRun s → step s = .next t → LinesFollowRun t

/-- Every step keeps the up-thresholds in ascending order and the principal bank valid, in the working settings and in the stored
copy, and every bank within 32 points and the ranges of a point (R46, R64). That the stored copy holds such settings whatever its
mark, INVALID after a cut save too, is the model's choice (log 12). -/
def Obligations.StepKeepsSettingsSound : Prop :=
  ∀ s t : State, ThresholdsOrdered s → BanksSound s → step s = .next t → ThresholdsOrdered t ∧ BanksSound t

/-- Every step keeps a pending acknowledgment at the level in force, each engine's phase, line and pattern in agreement, and output
tests to level NORMAL (R88, R93, R102, R107, R109). -/
def Obligations.StepKeepsWarningAndOutputs : Prop :=
  ∀ s t : State, AckForLevel s → OutputsSound s → step s = .next t → AckForLevel t ∧ OutputsSound t

/-- Every step keeps the log memory at most 8,192 consecutive entries up to the next sequence number, and every cursor between the
oldest number and one past the newest (R36, R37). -/
def Obligations.StepKeepsLogSound : Prop :=
  ∀ s t : State, LogSound s → step s = .next t → LogSound t

/-- Every step keeps the store INVALID with the working settings in it while a save is in progress, and a request in progress at the
saving port alone; and while a save is in progress no command but a power-on changes the working settings (R181, R194, R195). That the
copy holds the working settings while its mark is still INVALID is the model's choice (log 12). -/
def Obligations.StepKeepsSaveSound : Prop :=
  (∀ s t : State, SaveSound s → step s = .next t → SaveSound t) ∧
    ∀ (i : Instr) (s t : State), s.save ≠ none → (∀ b x y z, i ≠ .powerOn b x y z) → exec i s = .next t → t.cfg = s.cfg

/-- Every step keeps the finalised sums equal to the sums over the finalised verticals, and each vertical finalised as the run state
says (R165, R166). -/
def Obligations.StepKeepsSumsSound : Prop :=
  ∀ s t : State, SumsSound s → step s = .next t → SumsSound t

/-- Every step keeps the stations of an open run strictly monotonic in its direction, and its list within 48 verticals (R143, R152).
-/ def Obligations.StepKeepsStationsSound : Prop := ∀ s t : State, StationsSound s → step s = .next t → StationsSound t /-! ### The
clock, samples and minute closes -/ /-- A count of the station clock. On backup power the clock alone counts (log 9, read from the
rules). Under main power what fell due at the last count is taken first, as its own rows take it (log 6, the model's choice; nothing
where nothing is due); then the clock, the quiet count, the idle timer and the acknowledgment timers count, a sample is formed with
the new time, its SENSOR_STATE notices are posted, the disagreement change first, and the minute accumulator takes the sample, a close
falling due at a minute boundary (R11, R21, R24, R25, R27, R28, R51, R93, R136). -/
def Obligations.ClockCount : Prop :=
  ∀ s : State,
    let tick := fun c : Clock => (⟨(c.time + 1) % 4294967296, c.unset || decide (4294967295 ≤ c.time),
      c.setAge.map (fun a => min 4294967295 (a + 1))⟩ : Clock)
    (s.powered = false → exec .stationClockCount s = .next { s with clock := tick s.clock }) ∧
    (s.powered = true → ∃ a b u : State,
      exec .idleExpiry s = .next a ∧ exec .deadlineExpiry a = .next b ∧ exec .minuteClose b = .next u ∧
      (s.log.closeDue = false → (s.rating.claim = none ∨ 0 < s.rating.idle) → (∀ r, s.warning.ack = some r → 0 < r.timer) → u = s) ∧
      let old := u.sensing
      let new := sampleExpiry u.cfg.sensing (tick u.clock).time old
      let x := new.record.sample
      let acc := u.log.acc
      let taken : Accumulator :=
        { sum := if x.source = .held then acc.sum else acc.sum + x.value.getD 0
          accFloat := if x.source = .float then acc.accFloat + 1 else acc.accFloat
          accPress := if x.source = .press then acc.accPress + 1 else acc.accPress
          held := if x.source = .held then acc.held + 1 else acc.held
          marks := ⟨acc.marks.reseated || x.marks.reseated, acc.marks.clamped || x.marks.clamped, acc.marks.disagree || x.marks.disagree⟩
          lastHeld := if x.source = .held then x.value else acc.lastHeld
          sensor := some new.sensorState }
      let told := fun change : Param => (⟨.sensorState, (tick u.clock).time, some change, some (.sensor new.sensorState),
        x.value.map Param.num, false⟩ : Notice)
      let notices :=
        (if old.disagree = false ∧ new.disagree = true then [told .disagreeSet]
         else if old.disagree = true ∧ new.disagree = false then [told .disagreeCleared] else []) ++
        (if old.sensorState ≠ .lost ∧ new.sensorState = .lost then [told .lostEntered]
         else if old.sensorState = .lost ∧ new.sensorState ≠ .lost then [told .lostLeft] else [])
      exec .stationClockCount s = .next (notices.foldl State.postAll { u with
        clock := tick u.clock
        run := { u.run with ctx := u.run.ctx.map (fun c : RunContext =>
          { c with quiet := if c.holder.isSome then min 65535 (c.quiet + 1) else c.quiet }) }
        rating := { u.rating with idle := if u.rating.claim.isSome then u.rating.idle - 1 else u.rating.idle }
        warning := { u.warning with ack := u.warning.ack.map (fun r : AckRecord =>
          { r with timer := r.timer - 1, elapsed := min 4294967295 (r.elapsed + 1) }) }
        sensing := new
        log := { u.log with acc := taken, closeDue := decide ((tick u.clock).time % 60 = 0) } }))

/-- What a sample expiry leaves: the record at the new time; an accepted sample gives sensor state OK and becomes the last accepted
stage; a held one repeats it and steps the sensor state by the table of R15; the reading age rises while a reading exists, and stands
while none does (log 15). The disagreement check compares the stages offered by both gauges. The primary is tried first, the secondary
where the primary gave nothing: a usable gauge offers its clamped stage, accepted when nothing was accepted before, when a re-seat is
pending, within the step limit, or at the third reject in a row; RESEATED marks an acceptance by re-seat; otherwise its reject count
rises. A gauge not tried has its reject count 0 (R3, R9, R10, R11, R12, R13, R14, R15, R16, R17). -/
def Obligations.SampleOutcome : Prop :=
  (∀ (c : SensingSettings) (time : Nat) (x : Sensing),
    let y := sampleExpiry c time x
    let n := y.record.sample
    (y.record.time = time ∧ y.float = x.float ∧ y.receiver = x.receiver ∧ y.reading = x.reading ∧ y.garbled = x.garbled ∧
      y.readingAge = (if x.reading = none then x.readingAge else min 65535 (x.readingAge + 1)) ∧ n.marks.disagree = y.disagree) ∧
    (n.source ≠ .held → y.sensorState = .ok ∧ y.heldSeconds = 0 ∧ n.value ≠ none ∧ n.value = y.lastAccepted.map Marked.mm) ∧
    (n.source = .held →
      n.value = x.lastAccepted.map Marked.mm ∧ y.lastAccepted = x.lastAccepted ∧
      n.marks = ⟨false, x.lastAccepted.any Marked.clamped, y.disagree⟩ ∧
      y.heldSeconds = min 65535 (x.heldSeconds + 1) ∧
      y.sensorState =
        (match x.sensorState with
          | .ok => .holding
          | .holding => if c.holdLimitS ≤ (y.heldSeconds : Int) then .lost else .holding
          | .lost => .lost))) ∧
  ∀ (c : SensingSettings) (time : Nat) (x : Sensing),
    let y := sampleExpiry c time x
    let n := y.record.sample
    let stage := fun raw : Int => (⟨clamp (-9999) 99999 raw, isOutside (-9999) 99999 raw⟩ : Marked)
    let float := if x.float.fault = none then some (stage (c.datumF + roundDiv (x.float.count * c.pitchNm) 1000000)) else none
    let press := (if (y.readingAge : Int) ≤ c.staleS then x.reading else none).map (fun r =>
      stage (c.datumP + roundDiv (r * c.gain) 10000))
    (float = none ∨ press = none →
      y.disagree = x.disagree ∧ y.disagreeCount = x.disagreeCount ∧ y.agreeCount = x.agreeCount) ∧
    (∀ f p : Marked, float = some f → press = some p →
      (c.agreeMm < |f.mm - p.mm| →
        (x.disagree = false ∧ 59 ≤ x.disagreeCount → y.disagree = true ∧ y.disagreeCount = 0 ∧ y.agreeCount = 0) ∧
        (x.disagree = true ∨ x.disagreeCount < 59 →
          y.disagree = x.disagree ∧ y.disagreeCount = min 60 (x.disagreeCount + 1) ∧ y.agreeCount = 0)) ∧
      (|f.mm - p.mm| ≤ c.agreeMm →
        (x.disagree = true ∧ 59 ≤ x.agreeCount → y.disagree = false ∧ y.disagreeCount = 0 ∧ y.agreeCount = 0) ∧
        (x.disagree = false ∨ x.agreeCount < 59 →
          y.disagree = x.disagree ∧ y.disagreeCount = 0 ∧ y.agreeCount = min 60 (x.agreeCount + 1)))) ∧
    ∀ (o1 o2 : Option Marked) (g1 g2 h1 h2 : GaugeFilter) (s1 s2 : SampleSource),
      (c.primary = .float ∧ o1 = float ∧ o2 = press ∧ g1 = x.floatFilter ∧ g2 = x.pressFilter ∧ h1 = y.floatFilter ∧
          h2 = y.pressFilter ∧ s1 = .float ∧ s2 = .press) ∨
        (c.primary = .press ∧ o1 = press ∧ o2 = float ∧ g1 = x.pressFilter ∧ g2 = x.floatFilter ∧ h1 = y.pressFilter ∧
          h2 = y.floatFilter ∧ s1 = .press ∧ s2 = .float) →
      let outside := fun m : Marked => x.lastAccepted.any (fun l => decide (c.stepMm < |m.mm - l.mm|))
      let accepts := fun (g : GaugeFilter) (m : Marked) =>
        x.lastAccepted = none ∨ g.reseat = true ∨ outside m = false ∨ 2 ≤ g.rejects
      let sample := fun (src : SampleSource) (g : GaugeFilter) (m : Marked) =>
        (⟨some m.mm, src, ⟨g.reseat || outside m, m.clamped, y.disagree⟩⟩ : Sample)
      (∀ m : Marked, o1 = some m → accepts g1 m →
        n = sample s1 g1 m ∧ y.lastAccepted = some m ∧ h1 = ⟨0, false⟩ ∧ h2 = { g2 with rejects := 0 }) ∧
      (o1 = none ∨ (∃ m, o1 = some m ∧ ¬ accepts g1 m) →
        h1 = (if o1 = none then { g1 with rejects := 0 } else ⟨g1.rejects + 1, false⟩) ∧
        (∀ m : Marked, o2 = some m → accepts g2 m → n = sample s2 g2 m ∧ y.lastAccepted = some m ∧ h2 = ⟨0, false⟩) ∧
        (∀ m : Marked, o2 = some m → ¬ accepts g2 m → n.source = .held ∧ h2 = ⟨g2.rejects + 1, false⟩) ∧
        (o2 = none → n.source = .held ∧ h2 = { g2 with rejects := 0 }))

/-- MINUTE_CLOSE when the boundary sample has arrived: the minute mean by R28, the trend ring by R29, the rate of rise by R30, the
entry in progress by R33, which gathers a present mean, its close at an interval boundary by R34, and the evaluation of the warning
unit, in that order (R31). Where no close is due the event does not occur (log 8, the model's choice). -/
def Obligations.MinuteClose : Prop :=
  ∀ s : State, s.powered = true →
    (s.log.closeDue = false → exec .minuteClose s = .next s) ∧
    (s.log.closeDue = true →
      let a := s.log.acc
      let n := a.accFloat + a.accPress
      let m : MinuteMean :=
        { closeTime := s.clock.time, value := if n = 0 then a.lastHeld else some (roundDiv a.sum n),
          source := if n = 0 then .held else if a.accPress = 0 then .float else if a.accFloat = 0 then .press else .mixed,
          marks := a.marks, heldPart := decide (0 < a.held ∧ 0 < n),
          accFloat := a.accFloat, accPress := a.accPress, held := a.held }
      let ring :=
        if m.value = none then s.log.ring else if s.log.ring.length < 61 then s.log.ring ++ [m] else s.log.ring.tail ++ [m]
      let w := s.cfg.log.w
      let rate := if ring.length ≤ w then none else m.value.bind (fun m0 =>
        ((ring[ring.length - 1 - w]?).bind MinuteMean.value).map (fun mW => roundDiv ((m0 - mW) * 60) w))
      let e : EntryInProgress :=
        { s.log.entry with unset := s.log.entry.unset || s.clock.unset, runFlag := s.log.entry.runFlag || s.run.ctx.isSome }
      let entry : EntryInProgress := match m.value with
        | none => e
        | some v => { e with
            span := e.span + 1, sum := e.sum + v, peak := some (match e.peak with | none => v | some p => max p v)
            sawFloat := e.sawFloat || decide (m.source = .float), sawPress := e.sawPress || decide (m.source = .press)
            sawMixed := e.sawMixed || decide (m.source = .mixed), sawHeld := e.sawHeld || decide (m.source = .held)
            disagree := e.disagree || m.marks.disagree, heldPart := e.heldPart || m.heldPart
            reseated := e.reseated || m.marks.reseated, clamped := e.clamped || m.marks.clamped, lastClose := m.closeTime }
      let u := { s with log := { s.log with
        acc := ⟨0, 0, 0, 0, ⟨false, false, false⟩, none, none⟩, closeDue := false, ring := ring, rate := rate, lastMean := some m
        entry := entry } }
      let v := if s.clock.time % (s.log.interval.minutes * 60) = 0 then u.closeEntry s.warning.level else u
      exec .minuteClose s = .next (v.evaluate m rate (a.sensor.getD s.sensing.sensorState)))

/-- The close of an entry in progress: one without a present mean is discarded; otherwise it joins the log under the next sequence
number with the span, rounded mean, peak, source and marks it gathered, TIME_STEP carried if pending. A full log loses its oldest
entry, and each port whose cursor stood there moves on by 1 with its gap total raised and LOG_GAP posted; after entry 4,294,967,295
the log is first cleared (R32, R33, R34, R36, R37). -/
def Obligations.LogEntryWrite : Prop :=
  ∀ (s : State) (level : Level),
    let l := s.log
    let t := s.closeEntry level
    let e := l.entry
    let entryAt := fun seq : Nat => (
      { seq := seq, closeTime := e.lastClose, span := e.span, mean := roundDiv e.sum e.span, peak := e.peak.getD 0
        source := if e.sawMixed || (e.sawFloat && e.sawPress) then .mixed else if e.sawFloat then .float
          else if e.sawPress then .press else .held
        marks := ⟨e.disagree, e.heldPart || (e.sawHeld && (e.sawFloat || e.sawPress || e.sawMixed)), e.reseated, e.clamped,
          l.timeStep, e.unset, e.runFlag⟩
        level := level } : LogEntry)
    let fresh : EntryInProgress := ⟨0, 0, none, false, false, false, false, false, false, false, false, false, s.run.ctx.isSome, 0⟩
    (t.log.entry = fresh ∧ t.log.acc = l.acc ∧ t.log.ring = l.ring ∧ t.log.interval = l.interval ∧
      t.cfg = s.cfg ∧ t.run = s.run ∧ t.warning = s.warning) ∧
    (l.entry.span = 0 → t = { s with log := { l with entry := fresh } }) ∧
    (0 < l.entry.span → l.entries.length < 8192 → l.nextSeq < 4294967296 →
      t = { s with log := { l with entry := fresh, entries := l.entries ++ [entryAt l.nextSeq]
                                   nextSeq := l.nextSeq + 1, timeStep := false } }) ∧
    (0 < l.entry.span → l.nextSeq < 4294967296 → ∀ (x : LogEntry) (rest : List LogEntry), l.entries = x :: rest →
      8192 ≤ l.entries.length →
      t.log.entries = rest ++ [entryAt l.nextSeq] ∧ t.log.nextSeq = l.nextSeq + 1 ∧ t.log.timeStep = false ∧
      ∀ p : Port,
        let c := l.cursors.get p
        if c.seq = x.seq then
          t.log.cursors.get p = ⟨x.seq + 1, min 65535 (c.gap + 1)⟩ ∧
          (t.port p).queue = (if admits (s.cfg.masks.get p) .logGap then
            enqueue (s.port p).queue ⟨.logGap, s.clock.time, some (.num 1), some (.num (x.seq + 1 : Nat)),
              some (.num (min 65535 (c.gap + 1) : Nat)), false⟩ else (s.port p).queue)
        else t.log.cursors.get p = c ∧ t.port p = s.port p) ∧
    (0 < l.entry.span → l.nextSeq = 4294967296 →
      t.log.entries = [entryAt 1] ∧ t.log.nextSeq = 2 ∧ t.log.timeStep = false ∧
      ∀ p : Port,
        let c := l.cursors.get p
        if c.seq < 4294967296 then
          t.log.cursors.get p = ⟨1, min 65535 (c.gap + (4294967296 - c.seq))⟩ ∧
          (t.port p).queue = (if admits (s.cfg.masks.get p) .logGap then
            enqueue (s.port p).queue ⟨.logGap, s.clock.time, some (.num (4294967296 - c.seq : Nat)), some (.num 1),
              some (.num (min 65535 (c.gap + (4294967296 - c.seq)) : Nat)), false⟩ else (s.port p).queue)
        else t.log.cursors.get p = ⟨1, c.gap⟩ ∧ t.port p = s.port p)

/-- The evaluation of a minute close, steps 1 to 3. SENSOR_LOST and SENSOR_BACK follow the sensor state and the lost at last close
flag; a close that is not counted steps no count and no state, so that its stage counts change by a level change of its entry alone.
At a counted close, the one that raises SENSOR_BACK too, STAGE_UP is raised exactly when the mean has stood at or above the threshold
of the level then in force for the persistence, and STAGE_DOWN when it has stood below the down-threshold of the level that STAGE_UP
leaves; a raise leaves its count 0. For each class raised, in order of step, its action entry is taken at the level in force, with all
its effects, on what the entries before it have left, and nothing outside the warning unit changes otherwise. The evaluation record
holds the close, whether it is counted, and the classes raised in order of step with the levels before and after (R65, R66, R67, R68,
R69, R75, R76, R90). -/
def Obligations.StageTriggers : Prop :=
  ∀ (s : State) (m : MinuteMean) (rate : Option Int) (sensor : SensorState),
    let w := s.warning
    let cfg := s.cfg.warning
    let t := s.evaluate m rate sensor
    let list := (t.warning.evaluation.map Evaluation.raised).getD []
    let raised := list.map Raised.cls
    let take := (fun a c => a.takeEntry c m.closeTime : State → TriggerClass → State)
    let taken := raised.foldl take s
    (t = { taken with warning := { t.warning with
        level := taken.warning.level, lastChange := taken.warning.lastChange, ack := taken.warning.ack } }) ∧
    (∀ (pre post : List Raised) (i : Raised), list = pre ++ i :: post →
      let a := (pre.map Raised.cls).foldl take s
      i.before = a.warning.level ∧ i.after = (take a i.cls).warning.level) ∧
    (t.warning.evaluation = some ⟨⟨m, rate, sensor, m.value.map (ratedDischarge s.cfg.bank)⟩,
        decide (sensor ≠ .lost) && m.value.isSome, list⟩ ∧
      raised.Sublist [.sensorLost, .sensorBack, .stageUp, .stageDown, .rateHigh, .rateNormal, .flowHigh, .flowNormal] ∧
      (list.head?.map Raised.before).getD t.warning.level = w.level ∧
      (list.getLast?.map Raised.after).getD w.level = t.warning.level ∧
      (raised = [] → t = { s with warning := t.warning })) ∧
    ((TriggerClass.sensorLost ∈ raised ↔ sensor = .lost ∧ w.lostAtClose = false) ∧
      (TriggerClass.sensorBack ∈ raised ↔ sensor ≠ .lost ∧ w.lostAtClose = true) ∧
      t.warning.lostAtClose = decide (sensor = .lost)) ∧
    (sensor = .lost ∨ m.value = none →
      (∀ c ∈ raised, c = .sensorLost ∨ c = .sensorBack) ∧
      t.warning.rateState = w.rateState ∧ t.warning.rateHigh = w.rateHigh ∧ t.warning.rateLow = w.rateLow ∧
      t.warning.flowState = w.flowState ∧ t.warning.flowHigh = w.flowHigh ∧ t.warning.flowLow = w.flowLow ∧
      t.warning.up = taken.warning.up ∧ t.warning.down = taken.warning.down) ∧
    (∀ v : Int, m.value = some v → sensor ≠ .lost → (∀ k, 0 < cfg.pu.get k ∧ 0 < cfg.pd.get k) →
      let u := if w.lostAtClose then ({ s with warning := { w with lostAtClose := false } }).takeEntry .sensorBack m.closeTime else s
      let x := if TriggerClass.stageUp ∈ raised then
        ({ u with warning := { u.warning with up := 0 } }).takeEntry .stageUp m.closeTime
        else { u with warning := { u.warning with
          up := (u.warning.level.stepUp.map (fun k => if cfg.u.get k ≤ v then u.warning.up + 1 else 0)).getD u.warning.up } }
      let y := if TriggerClass.stageDown ∈ raised then
        ({ x with warning := { x.warning with down := 0 } }).takeEntry .stageDown m.closeTime
        else { x with warning := { x.warning with down := (x.warning.level.stepDown.map
          (fun k => if v < cfg.u.get k - cfg.h.get k then x.warning.down + 1 else 0)).getD x.warning.down } }
      let z := (raised.filter (fun c => c ∈ [TriggerClass.rateHigh, .rateNormal, .flowHigh, .flowNormal])).foldl take y
      (TriggerClass.stageUp ∈ raised ↔
        ∃ k, u.warning.level.stepUp = some k ∧ cfg.u.get k ≤ v ∧ cfg.pu.get k ≤ u.warning.up + 1) ∧
      (TriggerClass.stageDown ∈ raised ↔
        ∃ k, x.warning.level.stepDown = some k ∧ v < cfg.u.get k - cfg.h.get k ∧ cfg.pd.get k ≤ x.warning.down + 1) ∧
      (TriggerClass.stageUp ∈ raised → t.warning.up = 0) ∧ (TriggerClass.stageDown ∈ raised → t.warning.down = 0) ∧
      t.warning.level = z.warning.level ∧ t.warning.up = z.warning.up ∧ t.warning.down = z.warning.down)

/-- The evaluation of a counted close, steps 4 and 5: RATE_HIGH is raised at the PR-th counted close in a row with a rate of at least
R_hi, RATE_NORMAL at the PR-th with a rate of at most R_lo, and the rate state becomes HIGH or NORMAL; FLOW_HIGH and FLOW_NORMAL
likewise by the rated discharge, against Q_hi and the low threshold. Where no class is raised, the count of the other state stands. A
rate of NONE leaves the rate state and its counts (R48, R71, R72, R73, R74). -/
def Obligations.RateAndFlowTriggers : Prop :=
  ∀ (s : State) (m : MinuteMean) (v : Int) (rate : Option Int) (sensor : SensorState), m.value = some v → sensor ≠ .lost →
    let w := s.warning
    let cfg := s.cfg.warning
    let q := (ratedDischarge s.cfg.bank v).q
    let low := roundDiv (cfg.qHi * (1000 - cfg.flowHyst)) 1000
    let t := (s.evaluate m rate sensor).warning
    let raised := ((t.evaluation.map Evaluation.raised).getD []).map Raised.cls
    (rate = none → t.rateState = w.rateState ∧ t.rateHigh = w.rateHigh ∧ t.rateLow = w.rateLow ∧
      TriggerClass.rateHigh ∉ raised ∧ TriggerClass.rateNormal ∉ raised) ∧
    (∀ r : Int, rate = some r →
      (TriggerClass.rateHigh ∈ raised ↔ w.rateState = .normal ∧ cfg.rHi ≤ r ∧ cfg.pr ≤ w.rateHigh + 1) ∧
      (TriggerClass.rateNormal ∈ raised ↔ w.rateState = .high ∧ r ≤ cfg.rLo ∧ cfg.pr ≤ w.rateLow + 1) ∧
      (w.rateState = .normal → TriggerClass.rateHigh ∉ raised →
        t.rateState = .normal ∧ t.rateHigh = (if cfg.rHi ≤ r then w.rateHigh + 1 else 0) ∧ t.rateLow = w.rateLow) ∧
      (w.rateState = .high → TriggerClass.rateNormal ∉ raised →
        t.rateState = .high ∧ t.rateLow = (if r ≤ cfg.rLo then w.rateLow + 1 else 0) ∧ t.rateHigh = w.rateHigh)) ∧
    (TriggerClass.flowHigh ∈ raised ↔ w.flowState = .normal ∧ cfg.qHi ≤ q ∧ cfg.pq ≤ w.flowHigh + 1) ∧
    (TriggerClass.flowNormal ∈ raised ↔ w.flowState = .high ∧ q < low ∧ cfg.pq ≤ w.flowLow + 1) ∧
    (w.flowState = .normal → TriggerClass.flowHigh ∉ raised →
      t.flowState = .normal ∧ t.flowHigh = (if cfg.qHi ≤ q then w.flowHigh + 1 else 0) ∧ t.flowLow = w.flowLow) ∧
    (w.flowState = .high → TriggerClass.flowNormal ∉ raised →
      t.flowState = .high ∧ t.flowLow = (if q < low then w.flowLow + 1 else 0) ∧ t.flowHigh = w.flowHigh) ∧
    (TriggerClass.rateHigh ∈ raised → t.rateState = .high) ∧ (TriggerClass.rateNormal ∈ raised → t.rateState = .normal) ∧
    (TriggerClass.flowHigh ∈ raised → t.flowState = .high) ∧ (TriggerClass.flowNormal ∈ raised → t.flowState = .normal) ∧
    (TriggerClass.rateHigh ∈ raised ∨ TriggerClass.rateNormal ∈ raised → t.rateHigh = 0 ∧ t.rateLow = 0) ∧
    (TriggerClass.flowHigh ∈ raised ∨ TriggerClass.flowNormal ∈ raised → t.flowHigh = 0 ∧ t.flowLow = 0)

/-! ### Action entries and the retrieve request -/

/-- An action entry taken for a class at the level in force: a next level that differs is a level change, which ends output tests and
zeroes the stage counts; the patterns are handed, siren and beacon; the interval is taken; a required acknowledgment opens a record of
the level left, and a level change without one clears the record. A log interval that differs closes the entry in progress with the
level the entry leaves, before LEVEL_EVENT and then ACK_DUE or ACK_WITHDRAWN are posted; a retrieve request comes last (R35, R63, R85,
R86, R87, R88, R89, R109). -/
def Obligations.ActionEntryTaken : Prop :=
  ∀ (s : State) (cls : TriggerClass) (time : Nat),
    let w := s.warning
    let e := (s.cfg.actions.get w.level).get cls
    let l := e.next.getD w.level
    let t := s.takeEntry cls time
    let minutes := (s.cfg.ack.get l).timeoutMin
    let handed := fun (o : OutputState) (n : Option (Fin 8)) => ((n.map (o.hand s.cfg.patterns)).getD o : OutputState)
    let ended := fun o : OutputState => if l = w.level then o else o.endTest s.cfg.patterns
    t.warning = { w with
      level := l
      lastChange := if l = w.level then w.lastChange else ⟨time, .table⟩
      up := if l = w.level then w.up else 0
      down := if l = w.level then w.down else 0
      ack := if e.ack then some ⟨l, time, minutes * 60, 0, 0⟩ else if l = w.level then w.ack else none } ∧
    (t.outputs.siren = handed (ended s.outputs.siren) e.siren ∧ t.outputs.beacon = handed (ended s.outputs.beacon) e.beacon) ∧
    (e.interval.getD s.log.interval = s.log.interval → t.log = s.log) ∧
    (e.interval.getD s.log.interval ≠ s.log.interval →
      t.log = { (s.closeEntry l).log with interval := e.interval.getD s.log.interval }) ∧
    (t.cfg = s.cfg ∧ t.clock = s.clock ∧ t.sensing = s.sensing ∧ t.rating = s.rating ∧ t.store = s.store ∧ t.save = s.save) ∧
    (let u := if e.interval.getD s.log.interval = s.log.interval then s else s.closeEntry l
     let posted := ((u.postWhen e.notice
         ⟨.levelEvent, time, some (.cls cls), some (.level w.level), some (.level l), false⟩).postWhen e.ack
         ⟨.ackDue, time, some (.level l), some (.num (minutes * 60 : Nat)), w.ack.map (fun r => .level r.level), false⟩).postWhen
         (!e.ack && decide (l ≠ w.level) && w.ack.isSome)
         ⟨.ackWithdrawn, time, w.ack.map (fun r => .level r.level), some (.level l), w.ack.map (fun r => .num r.overdue), false⟩
     let asked := if e.retrieve then posted.retrieve time else posted
     t.ports = asked.ports ∧ t.run = asked.run ∧ t.cableway = asked.cableway ∧ t.outputs.retrieve = asked.outputs.retrieve)

/-- A retrieve request by the run state: nothing without a run; in OPEN, FINISHED and RETRIEVING the notice alone; in the resting
states RETRIEVING with that return state, the retrieve mark and the line; in EXPOSING first the exposure is cut and its point joins
the vertical under work, marked SHORT and CUT, and DISCARDED below 15,000 ms, with the POSITION_FAULT state of its exposure start (log
36) (R106, R125, R129, R146, R155). -/
def Obligations.RetrieveRequest : Prop :=
  ∀ (s : State) (time : Nat),
    (s.run.ctx = none → s.retrieve time = s) ∧
    ∀ c : RunContext, s.run.ctx = some c →
      let told := fun (entered : Option RunState) =>
        (⟨.retrieve, time, some (.num c.number), some (.run s.runState), entered.map Param.run, false⟩ : Notice)
      let entering := fun (u : State) (r : Rest) =>
        (({ u with
          run := { u.run with ctx := some { c with phase := .retrieving r, retrieveMark := true } }
          outputs := { u.outputs with retrieve := true } }).postHolder c (told (some r.state)) : State)
      (c.phase = .opened ∨ c.phase = .finished ∨ (∃ r, c.phase = .retrieving r) → s.retrieve time = s.postHolder c (told none)) ∧
      (∀ r : Rest, c.phase = .rest r → s.retrieve time = entering s r) ∧
      (∀ (v : Vertical) (f : Fraction) (x : Exposure), c.phase = .exposing v f → s.cableway.exposure = some x →
        let speed := pointSpeed (s.cfg.meters.get x.meter) x.pulses x.elapsed
        let cut : PointResult :=
          if x.elapsed < 15000 then
            ⟨x.meter, x.startTime, x.depth, x.elapsed, x.pulses, none, none, none, ⟨true, true, false, true⟩⟩
          else ⟨x.meter, x.startTime, x.depth, x.elapsed, x.pulses, speed.nm, speed.segment, speed.velocity,
            ⟨true, false, speed.clamped, true⟩⟩
        let q : Point := ⟨cut, x.posFault, f, s.readStage, decide (s.sensing.sensorState ≠ .ok), false⟩
        s.retrieve time = entering { s with cableway := { s.cableway with exposure := none, lastPoint := some cut } }
          (.points { v with points := v.points ++ [q] }))

/-! ### Clock and log requests -/

/-- SET_CLOCK: refused with RUN_OPEN while a run is open; otherwise the entry in progress closes, written where it holds a present
mean, the minute accumulator, the ring and the rate are emptied, the station time becomes t with UNSET clear and age 0, a new entry
begins with TIME_STEP pending, CLOCK_SET is posted and answered with the old time (R26). A deadline expiry and a minute close that the
last count left due are taken first, as their own rows take them (log 7, the model's choice); answers without fields: log 18. -/
def Obligations.SetClock : Prop :=
  ∀ (p : Port) (t : Nat) (s : State), s.takes p → t < 4294967296 →
    (s.run.ctx ≠ none → exec (.setClock p t) s = .next (s.refusedOn p 0x21 .runOpen)) ∧
    (s.run.ctx = none → ∃ v u : State, exec .deadlineExpiry s = .next v ∧ exec .minuteClose v = .next u ∧
      ((∀ r, s.warning.ack = some r → 0 < r.timer) → s.log.closeDue = false → u = s) ∧
      let w := u.closeEntry u.warning.level
      exec (.setClock p t) s = .next ((({ w with
        clock := ⟨t, false, some 0⟩
        log := { w.log with
          acc := ⟨0, 0, 0, 0, ⟨false, false, false⟩, none, none⟩, closeDue := false, ring := [], rate := none, timeStep := true }
        }).postAll ⟨.clockSet, t, some (.num s.clock.time), some (.num t), some (.flag s.clock.unset), false⟩).answered p s.clock.time
          0x21 .ok (.clockSet s.clock.time t)))

/-- READ_LOG gives the entries from the port's cursor on, as many as asked, and moves nothing; SEEK_LOG puts the cursor at s, clamped
between the oldest number and one past the newest, and clears the gap total (R38, R40). Answers without fields: log 18. -/
def Obligations.LogReading : Prop :=
  ∀ (p : Port) (s : State), s.takes p →
    let c := s.log.cursors.get p
    (∀ count : Nat,
      (1 ≤ count ∧ count ≤ 3 → exec (.readLog p count) s = .next (s.answered p s.clock.time 0x22 .ok
        (.logEntries ((s.log.entries.filter (fun e => decide (c.seq ≤ e.seq))).take count) c.seq (s.log.nextSeq - c.seq) c.gap))) ∧
      (count = 0 ∨ 3 < count → exec (.readLog p count) s = .next (s.refusedOn p 0x22 .badValue))) ∧
    (∀ seq : Nat, s.log.oldest ≤ s.log.nextSeq →
      let new := if seq < s.log.oldest then s.log.oldest else if s.log.nextSeq < seq then s.log.nextSeq else seq
      exec (.seekLog p seq) s = .next (({ s with log := { s.log with cursors := s.log.cursors.set p ⟨new, 0⟩ } }).answered p
        s.clock.time 0x24 (if new = seq then .ok else .okClamped)
        (.sought new s.log.oldest (s.log.nextSeq - 1) (s.log.nextSeq - new))))

/-- ADVANCE_LOG(n): with n at most the port's unread count the cursor rises by n, the gap total becomes 0, and the response carries
the new cursor and the unread count after the move; a greater n is refused and nothing moves (R39). -/
def Obligations.AdvanceLog : Prop :=
  ∀ (p : Port) (n : Nat) (s : State), s.takes p →
    let c := s.log.cursors.get p
    let unread := s.log.nextSeq - c.seq
    (n ≤ unread → exec (.advanceLog p n) s = .next (({ s with log := { s.log with
      cursors := s.log.cursors.set p ⟨c.seq + n, 0⟩ } }).answered p s.clock.time 0x23 .ok (.advanced (c.seq + n) (unread - n)))) ∧
    (unread < n → ∃ b : Body, exec (.advanceLog p n) s = .next (s.answered p s.clock.time 0x23 .badValue b))

/-! ### Sensing -/

/-- A change of level on a quadrature input: one place forward in 00, 01, 11, 10 raises the count by 1 and one place back lowers it;
at the end of the count's range the count stands and the fault is SATURATED; two places are ILLEGAL_TRANSITION. The phase is the new
pair in every case, and nothing else changes (R2, R112, R115). A pair equal to the phase is no change (log 8). -/
def Obligations.QuadratureCounting : Prop :=
  ∀ (pair : LevelPair) (s : State), s.powered = true →
    let forward : List (LevelPair × LevelPair) :=
      [(⟨false, false⟩, ⟨false, true⟩), (⟨false, true⟩, ⟨true, true⟩), (⟨true, true⟩, ⟨true, false⟩), (⟨true, false⟩, ⟨false, false⟩)]
    let moved := fun q : Quad =>
      (if pair = q.phase then q
       else if (q.phase, pair) ∈ forward then
         (if 2147483647 ≤ q.count then ⟨q.count, pair, some .saturated⟩ else ⟨q.count + 1, pair, q.fault⟩)
       else if (pair, q.phase) ∈ forward then
         (if q.count ≤ -2147483648 then ⟨q.count, pair, some .saturated⟩ else ⟨q.count - 1, pair, q.fault⟩)
       else ⟨q.count, pair, some .illegalTransition⟩ : Quad)
    exec (.floatEncoderTransition pair) s = .next { s with sensing := { s.sensing with float := moved s.sensing.float } } ∧
    exec (.traverseTransition pair) s = .next { s with cableway := { s.cableway with traverse := moved s.cableway.traverse } } ∧
    exec (.soundingTransition pair) s = .next { s with cableway := { s.cableway with sounding := moved s.cableway.sounding } }

/-- The pressure line: characters are marked and buffered, a marked or seventeenth character and the end of a line act by the receiver
mode, a BREAK holds off further characters until the line returns high, and an idle gap drops a line. A line of an optional minus
sign, one to six digits, and optionally a full stop and one digit, gives the reading in tenths of a millimetre; a line of any other
form, one with a marked character or too many digits among them, is garbled (R4, R5, R6, R7, R8; the ASCII codes of the characters are
log 13). -/
def Obligations.PressureLine : Prop :=
  (∀ s : State, s.powered = true →
    let x := s.sensing
    let r := x.receiver
    (∀ (data : Byte) (stopHigh : Bool),
      let mark : CharMark := if stopHigh then .none else if data = 0 then .break else .framing
      let isBreak := decide (mark = .break)
      let ends := decide (data = 0x0D ∧ mark = .none)
      let becomes := fun y : Sensing => exec (.pressCharacterArrival data stopHigh) s = .next { s with sensing := y }
      (r.breakHold = true → becomes x) ∧
      (r.breakHold = false → r.mode = .collecting → ends = false → r.buffer.length < 16 →
        becomes { x with receiver := ⟨.collecting, r.buffer ++ [⟨data, mark⟩], isBreak⟩ }) ∧
      (r.breakHold = false → r.mode = .collecting → ends = false → 16 ≤ r.buffer.length →
        becomes { x with receiver := ⟨.dropping, [], isBreak⟩, garbled := true }) ∧
      (r.breakHold = false → r.mode = .dropping → ends = false → becomes { x with receiver := { r with breakHold := isBreak } }) ∧
      (r.breakHold = false → r.mode = .dropping → ends = true → becomes { x with receiver := ⟨.collecting, r.buffer, false⟩ }) ∧
      (r.breakHold = false → r.mode = .collecting → ends = true → r.buffer = [] → becomes x) ∧
      (r.breakHold = false → r.mode = .collecting → ends = true → r.buffer ≠ [] → ∀ reading, parseLine r.buffer = some reading →
        becomes { x with receiver := ⟨.collecting, [], false⟩, reading := some reading, readingAge := 0, garbled := false }) ∧
      (r.breakHold = false → r.mode = .collecting → ends = true → r.buffer ≠ [] → parseLine r.buffer = none →
        becomes { x with receiver := ⟨.collecting, [], false⟩, garbled := true })) ∧
    (exec .pressIdleGap s = .next { s with sensing :=
      if r.mode = .dropping then { x with receiver := { r with mode := .collecting } }
      else if r.buffer = [] then x else { x with receiver := { r with buffer := [] }, garbled := true } }) ∧
    exec .pressLineReturnsHigh s = .next { s with sensing := { x with receiver := { r with breakHold := false } } }) ∧
    (∀ (minus : Bool) (digits : List (Fin 10)) (tenth : Option (Fin 10)), 1 ≤ digits.length → digits.length ≤ 6 →
    let char := fun d : Fin 10 => BitVec.ofNat 8 (0x30 + d.val)
    let whole : Nat := digits.foldl (fun v d => 10 * v + d.val) 0
    let size : Int := 10 * whole + ((tenth.map (fun d => (d.val : Int))).getD 0)
    let line := (if minus then [0x2D#8] else []) ++ digits.map char ++ ((tenth.map (fun d => [0x2E#8, char d])).getD [])
    parseLine (line.map (fun b => ⟨b, .none⟩)) = some (if minus then -size else size)) ∧
  (∀ (line : List LineChar) (reading : Int), parseLine line = some reading →
    ∃ (minus : Bool) (digits : List (Fin 10)) (tenth : Option (Fin 10)), 1 ≤ digits.length ∧ digits.length ≤ 6 ∧
      line = ((if minus then [0x2D#8] else []) ++ digits.map (fun d => BitVec.ofNat 8 (0x30 + d.val)) ++
        ((tenth.map (fun d => [0x2E#8, BitVec.ofNat 8 (0x30 + d.val)])).getD [])).map (fun b => ⟨b, .none⟩)) ∧
  (∀ (line : List LineChar) (c : LineChar), c ∈ line → c.mark ≠ .none → parseLine line = none) ∧
  (∀ digits : List (Fin 10), 6 < digits.length →
    parseLine (digits.map (fun d => ⟨BitVec.ofNat 8 (0x30 + d.val), .none⟩)) = none)

/-- SET_FLOAT_STAGE and SET_PRESS_STAGE fit the gauge's datum so that it reads the stage given, both clamped, and answer the datum and
the stage it gives with its CLAMPED mark; the float fit clears the encoder fault, and each leaves its reject count 0 with a re-seat
pending. The pressure fit needs a usable reading. A settings save refuses both with BUSY (R3, R10, R18, R19, R195). Answers without
fields: log 18. -/
def Obligations.FitStages : Prop :=
  ∀ (p : Port) (v : Int) (s : State), s.takes p →
    let c := s.cfg.sensing
    let w := clamp (-9999) 99999 v
    let fit := fun k : Int => clamp (-2000000000) 2000000000 (w - k)
    let moved := fun k : Int => isOutside (-9999) 99999 v || isOutside (-2000000000) 2000000000 (w - k)
    (s.save ≠ none → exec (.setFloatStage p v) s = .next (s.refusedOn p 0x11 .busy) ∧
      exec (.setPressStage p v) s = .next (s.refusedOn p 0x12 .busy)) ∧
    (s.save = none →
      let k := roundDiv (s.sensing.float.count * c.pitchNm) 1000000
      exec (.setFloatStage p v) s = .next (({ s with
        cfg := { s.cfg with sensing := { c with datumF := fit k } }
        sensing := { s.sensing with float := { s.sensing.float with fault := none }, floatFilter := ⟨0, true⟩ } }).answered p
        s.clock.time 0x11 (if moved k then .okClamped else .ok) (.fitted (fit k)
          ⟨clamp (-9999) 99999 (fit k + k), isOutside (-9999) 99999 (fit k + k)⟩))) ∧
    (s.save = none → (s.sensing.reading = none ∨ c.staleS < (s.sensing.readingAge : Int)) →
      exec (.setPressStage p v) s = .next (s.refusedOn p 0x12 .wrongState)) ∧
    (s.save = none → ∀ r : Int, s.sensing.reading = some r → (s.sensing.readingAge : Int) ≤ c.staleS →
      let k := roundDiv (r * c.gain) 10000
      exec (.setPressStage p v) s = .next (({ s with
        cfg := { s.cfg with sensing := { c with datumP := fit k } }
        sensing := { s.sensing with pressFilter := ⟨0, true⟩ } }).answered p
        s.clock.time 0x12 (if moved k then .okClamped else .ok) (.fitted (fit k)
          ⟨clamp (-9999) 99999 (fit k + k), isOutside (-9999) 99999 (fit k + k)⟩)))

/-- SET_SENSING, SET_LOG_SETTINGS and SET_COUNTER_SETTINGS: each field present is clamped into its range, each absent one keeps its
value, OK_CLAMPED tells that one was clamped, and a PRIMARY or interval outside its set refuses the whole request. A changed pitch or
gain leaves a re-seat pending at its gauge, and a changed counter pitch sets that counter's fault to PITCH_CHANGED.
GET_COUNTER_SETTINGS gives the counter settings as they stand. The factory defaults of the three groups, the datums' among them, are
those of their tables (R20, R43, R122, R189, R195). Answers without fields: log 18. -/
def Obligations.OptionalSettings : Prop :=
  (factorySettings.sensing = { primary := .float, pitchNm := 1000000, datumF := 0, gain := 1000, datumP := 0, staleS := 15
                               stepMm := 300, holdLimitS := 300, agreeMm := 30 } ∧
    factorySettings.log = ⟨15, .m15⟩ ∧ factorySettings.counters = ⟨1000000, 1000000, 20⟩) ∧
  ∀ (p : Port) (s : State), s.takes p →
    (∀ (a : SensingArgs) (w : Option Int) (i : Option Nat) (x y m : Option Int), s.save ≠ none →
      exec (.setSensing p a) s = .next (s.refusedOn p 0x13 .busy) ∧
      exec (.setLogSettings p w i) s = .next (s.refusedOn p 0x27 .busy) ∧
      exec (.setCounterSettings p x y m) s = .next (s.refusedOn p 0x65 .busy)) ∧
    (∀ a : SensingArgs, s.save = none →
      let c := s.cfg.sensing
      let pitch := inRangeOr 1 10000000 a.pitchNm c.pitchNm
      let gain := inRangeOr 900 1100 a.gain c.gain
      (a.primary = some .outside → exec (.setSensing p a) s = .next (s.refusedOn p 0x13 .badValue)) ∧
      (∀ g : Gauge, (a.primary = some (.named g) ∨ a.primary = none ∧ g = c.primary) →
        exec (.setSensing p a) s = .next (({ s with
          cfg := { s.cfg with sensing := { c with
            primary := g, pitchNm := pitch, gain := gain, staleS := inRangeOr 1 60 a.staleS c.staleS
            stepMm := inRangeOr 50 2000 a.stepMm c.stepMm, holdLimitS := inRangeOr 60 900 a.holdLimitS c.holdLimitS
            agreeMm := inRangeOr 5 500 a.agreeMm c.agreeMm } }
          sensing := { s.sensing with
            floatFilter := ⟨s.sensing.floatFilter.rejects, s.sensing.floatFilter.reseat || decide (pitch ≠ c.pitchNm)⟩
            pressFilter := ⟨s.sensing.pressFilter.rejects, s.sensing.pressFilter.reseat || decide (gain ≠ c.gain)⟩ } }).answered p
          s.clock.time 0x13 (if outOfRange 1 10000000 a.pitchNm || outOfRange 900 1100 a.gain || outOfRange 1 60 a.staleS ||
            outOfRange 50 2000 a.stepMm || outOfRange 60 900 a.holdLimitS || outOfRange 5 500 a.agreeMm
            then .okClamped else .ok) .empty))) ∧
    (∀ (w : Option Int) (i : Option Nat), s.save = none →
      (∀ n, i = some n → n ∉ [1, 2, 5, 10, 15, 30, 60] →
        exec (.setLogSettings p w i) s = .next (s.refusedOn p 0x27 .badValue)) ∧
      (∀ j : Interval, (i = some j.minutes ∨ i = none ∧ j = s.cfg.log.defaultInterval) →
        exec (.setLogSettings p w i) s = .next (({ s with
          cfg := { s.cfg with log := ⟨(inRangeOr 5 60 w s.cfg.log.w).toNat, j⟩ } }).answered p s.clock.time 0x27
          (if outOfRange 5 60 w then .okClamped else .ok) .empty))) ∧
    (∀ x y m : Option Int, s.save = none →
      let c := s.cfg.counters
      let tp := inRangeOr 1 10000000 x c.traversePitchNm
      let sp := inRangeOr 1 10000000 y c.soundingPitchNm
      exec (.setCounterSettings p x y m) s = .next (({ s with
        cfg := { s.cfg with counters := ⟨tp, sp, (inRangeOr 5 200 m c.deadMs).toNat⟩ }
        cableway := { s.cableway with
          traverse := { s.cableway.traverse with
            fault := if tp = c.traversePitchNm then s.cableway.traverse.fault else some .pitchChanged }
          sounding := { s.cableway.sounding with
            fault := if sp = c.soundingPitchNm then s.cableway.sounding.fault else some .pitchChanged } } }).answered p
        s.clock.time 0x65 (if outOfRange 1 10000000 x || outOfRange 1 10000000 y || outOfRange 5 200 m
          then .okClamped else .ok) .empty)) ∧
    exec (.getCounterSettings p) s = .next (s.answered p s.clock.time 0x66 .ok (.counterSettings s.cfg.counters))

/-! ### Rating -/

/-- The rated discharge of a valid bank: at or below the lowest point its discharge with BELOW_RATING; between two points the rounded
straight line through them; above the highest point the last segment extended with BEYOND_RATING, at most 10,000,000 L/s. It takes
each point's own discharge at its stage, never falls as the stage rises, and stays in 0 to 10,000,000 L/s (R46, R47). -/
def Obligations.RatedDischarge : Prop :=
  ∀ bank : List RatingPoint, BankValid bank → BankSized bank →
    let line := fun (a b : RatingPoint) (h : Int) => a.q + roundDiv ((h - a.h) * (b.q - a.q)) (b.h - a.h)
    (∀ (a : RatingPoint) (rest : List RatingPoint) (h : Int), bank = a :: rest → h ≤ a.h →
      ratedDischarge bank h = ⟨a.q, ⟨true, false, false⟩⟩) ∧
    (∀ (pre post : List RatingPoint) (a b : RatingPoint) (h : Int), bank = pre ++ a :: b :: post → a.h < h → h ≤ b.h →
      ratedDischarge bank h = ⟨line a b h, ⟨false, false, false⟩⟩) ∧
    (∀ (pre : List RatingPoint) (a b : RatingPoint) (h : Int), bank = pre ++ [a, b] → b.h < h →
      ratedDischarge bank h = ⟨min 10000000 (line a b h), ⟨false, true, decide (10000000 < line a b h)⟩⟩) ∧
    (∀ x ∈ bank, (ratedDischarge bank x.h).q = x.q) ∧
    (∀ h h' : Int, h ≤ h' → (ratedDischarge bank h).q ≤ (ratedDischarge bank h').q) ∧
    ∀ h : Int, 0 ≤ (ratedDischarge bank h).q ∧ (ratedDischarge bank h).q ≤ 10000000

/-- RATING_BEGIN copies the principal bank to the alternate and takes the edit claim for 600 s, or is told the holder; RATING_POINT
replaces or appends a clamped point and RATING_TRUNCATE shortens the bank, both from the holder alone and both reloading the idle
timer even when refused. An edited bank that is not valid is answered with its first failure, a stage out of order before a discharge
out of order at the same point (log 17); a claim whose timer has run out and whose expiry is not yet taken is told with 1 s left (log
6); answers without fields: log 18. The factory bank holds two points, stage 0 and stage 10,000, both of discharge 0 (R46, R50, R51,
R52, R53, R54, R61). -/
def Obligations.RatingEditing : Prop :=
  factorySettings.bank = [⟨0, 0⟩, ⟨10000, 0⟩] ∧
  ∀ (p : Port) (s : State), s.takes p →
    let r := s.rating
    let edited := fun (bank : List RatingPoint) (code : Byte) (st : Status) =>
      (({ s with rating := { r with alternate := bank, idle := 600 } }).answered p s.clock.time code st
        (.ratingEdited bank.length (bankFailure bank)) : State)
    let heard := fun code : Byte => (({ s with rating := { r with idle := 600 } }).refusedOn p code .badValue : State)
    ((r.claim = none ∨ r.claim = some p) → exec (.ratingBegin p) s = .next (({ s with
      rating := { r with alternate := s.cfg.bank, claim := some p, idle := 600 } }).answered p s.clock.time 0x31 .ok
      (.ratingBegun r.generation s.cfg.bank.length))) ∧
    (∀ q : Port, q ≠ p → r.claim = some q →
      exec (.ratingBegin p) s = .next (s.answered p s.clock.time 0x31 .heldByOther (.heldBy q (max 1 r.idle)))) ∧
    (∀ bank : List RatingPoint,
      (bank.length < 2 → bankFailure bank = some ⟨.tooFewPoints, none⟩) ∧ (BankValid bank → bankFailure bank = none) ∧
      ∀ (pre post : List RatingPoint) (a b : RatingPoint), bank = pre ++ a :: b :: post →
        (pre ++ [a]).Pairwise (fun x y => x.h < y.h ∧ x.q ≤ y.q) →
        (b.h ≤ a.h → bankFailure bank = some ⟨.stageOrder, some (pre.length + 1)⟩) ∧
        (a.h < b.h → b.q < a.q → bankFailure bank = some ⟨.dischargeOrder, some (pre.length + 1)⟩)) ∧
    (∀ (index count : Nat) (h q : Int),
      let point : RatingPoint := ⟨clamp (-9999) 99999 h, clamp 0 10000000 q⟩
      let st : Status := if isOutside (-9999) 99999 h || isOutside 0 10000000 q then .okClamped else .ok
      (r.claim ≠ some p → exec (.ratingPoint p index h q) s = .next (s.refusedOn p 0x32 .notHolder) ∧
        exec (.ratingTruncate p count) s = .next (s.refusedOn p 0x33 .notHolder)) ∧
      (r.claim = some p →
        (index < r.alternate.length →
          exec (.ratingPoint p index h q) s = .next (edited (r.alternate.set index point) 0x32 st)) ∧
        (index = r.alternate.length → index < 32 →
          exec (.ratingPoint p index h q) s = .next (edited (r.alternate ++ [point]) 0x32 st)) ∧
        (r.alternate.length < index ∨ index = r.alternate.length ∧ 32 ≤ index →
          exec (.ratingPoint p index h q) s = .next (heard 0x32)) ∧
        (count ≤ r.alternate.length → exec (.ratingTruncate p count) s = .next (edited (r.alternate.take count) 0x33 .ok)) ∧
        (r.alternate.length < count → exec (.ratingTruncate p count) s = .next (heard 0x33))))

/-- RATING_CANCEL from the holder releases the edit claim and stops the idle timer: it counts no further and no idle expiry follows.
The alternate bank stands, no notice is posted, the generation is not changed, and a settings save does not matter. From any other
port, and where no port holds the claim, it is refused with NOT_HOLDER (R56; what a stopped timer holds is log 16 and is left open
here). -/
def Obligations.RatingCancel : Prop :=
  ∀ (p : Port) (s : State), s.takes p →
    (s.rating.claim = some p → ∃ (idle : Nat) (b : Body) (t : State), exec (.ratingCancel p) s = .next t ∧
      t = ({ s with rating := { s.rating with claim := none, idle := idle } }).answered p s.clock.time 0x35 .ok b ∧
      t.rating.count = t.rating ∧ exec .idleExpiry t = .next t) ∧
    (s.rating.claim ≠ some p → ∃ b : Body, exec (.ratingCancel p) s = .next (s.answered p s.clock.time 0x35 .notHolder b))

/-- RATING_COMMIT, its checks in order: NOT_HOLDER; BUSY during a save; INVALID_TABLE for a bank that is not valid by R46, with its
first failure: too few points, or the index of the first point whose stage is not above, or else (log 17) whose discharge is below,
that of the point before it. Otherwise the banks are exchanged, the generation rises by 1, wrapping from 65,535, the claim is released
and RATING_SWITCHED is posted (R46, R53, R55, R57; the idle timer of a released claim is held as 0, log 16; answers without fields:
log 18). -/
def Obligations.RatingCommit : Prop :=
  ∀ (p : Port) (s : State), s.takes p →
    let r := s.rating
    let heard : State := { s with rating := { r with idle := 600 } }
    let run := exec (.ratingCommit p) s
    (r.claim ≠ some p → run = .next (s.refusedOn p 0x34 .notHolder)) ∧
    (r.claim = some p → s.save ≠ none → run = .next (heard.refusedOn p 0x34 .busy)) ∧
    (r.claim = some p → s.save = none →
      let invalid := fun f : RatingFailure =>
        run = .next (heard.answered p s.clock.time 0x34 .invalidTable (.ratingInvalid (some f)))
      (¬ BankValid r.alternate → ∃ f, invalid f) ∧
      (r.alternate.length < 2 → invalid ⟨.tooFewPoints, none⟩) ∧
      (∀ (pre post : List RatingPoint) (a b : RatingPoint), r.alternate = pre ++ a :: b :: post →
        (pre ++ [a]).Pairwise (fun x y => x.h < y.h ∧ x.q ≤ y.q) →
        (b.h ≤ a.h → invalid ⟨.stageOrder, some (pre.length + 1)⟩) ∧
        (a.h < b.h → b.q < a.q → invalid ⟨.dischargeOrder, some (pre.length + 1)⟩))) ∧
    (r.claim = some p → s.save = none → BankValid r.alternate →
      let g := if r.generation = 65535 then 0 else r.generation + 1
      r.generation ≤ 65535 → run = .next ((({ s with
        cfg := { s.cfg with bank := r.alternate }
        rating := ⟨s.cfg.bank, g, none, 0⟩ }).postAll
        ⟨.ratingSwitched, s.clock.time, some (.num g), some (.num r.alternate.length), some (.port p), false⟩).answered p
        s.clock.time 0x34 .ok (.ratingCommitted g)))

/-! ### Warning requests -/

/-- FORCE_LEVEL(k), k 0 to 3: the level becomes k, changed or not, by way FORCED; running tests end, a pending record is cleared
without a notice, the level's patterns are handed, every count becomes 0 and LEVEL_FORCED is posted. Any other k is refused (R63, R77,
R80, R109). Answers without fields: log 18. -/
def Obligations.ForceLevel : Prop :=
  ∀ (p : Port) (s : State), s.takes p →
    (∀ k : Nat, 3 < k → exec (.forceLevel p k) s = .next (s.refusedOn p 0x41 .badValue)) ∧
    ∀ l : Level,
      let forced := fun (o : OutputState) (n : Fin 8) => ((o.endTest s.cfg.patterns).hand s.cfg.patterns n : OutputState)
      exec (.forceLevel p l.toNat) s = .next ((({ s with
        warning := { s.warning with
          level := l, lastChange := ⟨s.clock.time, .forced⟩, ack := none, up := 0, down := 0, rateHigh := 0, rateLow := 0
          flowHigh := 0, flowLow := 0 }
        outputs := { s.outputs with
          siren := forced s.outputs.siren (s.cfg.warning.siren.get l)
          beacon := forced s.outputs.beacon (s.cfg.warning.beacon.get l) } }).postAll
        ⟨.levelForced, s.clock.time, some (.level s.warning.level), some (.level l), some (.port p), false⟩).answered p
        s.clock.time 0x41 .ok .empty)

/-- SET_WARNING_SETTINGS: fields are clamped into their ranges, the three up-thresholds are put in ascending order when any is
present, R_lo is clamped to at most the R_hi in force, and a pattern above 7 refuses the whole request; a save refuses it with BUSY.
The factory defaults are those of the two tables (R64, R71, R79, R80, R189). Answers without fields: log 18. -/
def Obligations.SetWarningSettings : Prop :=
  factorySettings.warning = { u := ⟨1500, 2200, 3000⟩, h := ⟨100, 150, 200⟩, pu := ⟨3, 3, 2⟩, pd := ⟨15, 15, 15⟩
                              rHi := 300, rLo := 100, pr := 3, qHi := 20000, flowHyst := 100, pq := 3
                              siren := ⟨0, 0, 2, 3⟩, beacon := ⟨0, 1, 2, 3⟩ } ∧
  ∀ (p : Port) (a : WarningArgs) (s : State), s.takes p →
    let c := s.cfg.warning
    let nat := fun (hi : Int) (f : Option Int) (old : Nat) => (inRangeOr 1 hi f old).toNat
    let given : PerStep Int := ⟨a.u.k1.getD c.u.k1, a.u.k2.getD c.u.k2, a.u.k3.getD c.u.k3⟩
    let u1 := clamp (-9999) 99997 given.k1
    let u2 := clamp (u1 + 1) 99998 given.k2
    let u3 := clamp (u2 + 1) 99999 given.k3
    let anyU := a.u.k1.isSome || a.u.k2.isSome || a.u.k3.isSome
    let rHi := inRangeOr 1 1319976 a.rHi c.rHi
    let moved := (anyU && decide (⟨u1, u2, u3⟩ ≠ given)) ||
      [a.h.k1, a.h.k2, a.h.k3].any (outOfRange 0 2000) ||
      [a.pu.k1, a.pu.k2, a.pu.k3, a.pd.k1, a.pd.k2, a.pd.k3, a.pr, a.pq].any (outOfRange 1 30) ||
      outOfRange 1 1319976 a.rHi || isOutside (-1319976) rHi (a.rLo.getD c.rLo) || outOfRange 1 10000000 a.qHi ||
      outOfRange 0 500 a.flowHyst
    let badPattern := ∃ l n, (a.siren.get l = some n ∨ a.beacon.get l = some n) ∧ 7 < n
    (s.save ≠ none → exec (.setWarningSettings p a) s = .next (s.refusedOn p 0x42 .busy)) ∧
    (s.save = none → badPattern → exec (.setWarningSettings p a) s = .next (s.refusedOn p 0x42 .badValue)) ∧
    (s.save = none → ¬ badPattern → ∃ siren beacon : PerLevel (Fin 8),
      (∀ l, (siren.get l).val = (a.siren.get l).getD (c.siren.get l).val ∧
        (beacon.get l).val = (a.beacon.get l).getD (c.beacon.get l).val) ∧
      let new : WarningSettings :=
        { u := if anyU then ⟨u1, u2, u3⟩ else c.u
          h := ⟨inRangeOr 0 2000 a.h.k1 c.h.k1, inRangeOr 0 2000 a.h.k2 c.h.k2, inRangeOr 0 2000 a.h.k3 c.h.k3⟩
          pu := ⟨nat 30 a.pu.k1 c.pu.k1, nat 30 a.pu.k2 c.pu.k2, nat 30 a.pu.k3 c.pu.k3⟩
          pd := ⟨nat 30 a.pd.k1 c.pd.k1, nat 30 a.pd.k2 c.pd.k2, nat 30 a.pd.k3 c.pd.k3⟩
          rHi := rHi, rLo := clamp (-1319976) rHi (a.rLo.getD c.rLo), pr := nat 30 a.pr c.pr
          qHi := inRangeOr 1 10000000 a.qHi c.qHi, flowHyst := inRangeOr 0 500 a.flowHyst c.flowHyst, pq := nat 30 a.pq c.pq
          siren := siren, beacon := beacon }
      exec (.setWarningSettings p a) s = .next (({ s with cfg := { s.cfg with warning := new } }).answered p s.clock.time 0x42
        (if moved then .okClamped else .ok) (.warningSet new)))

/-- SET_ACTION writes one entry whole, GET_ACTION gives it, and a level, class, next level, pattern, interval or two-valued field
outside its set refuses the request; SET_ACK_SETTINGS clamps its timeouts and refuses a pattern above 7. A save refuses the settings
with BUSY. The factory action table and acknowledgment settings are those of their tables (R84, R91, R92, R98, R189, R195). Answers
without fields: log 18. -/
def Obligations.ActionAndAckSettings : Prop :=
  (let common : ActionEntry := ⟨none, none, none, none, true, false, false⟩
   let step := fun (next : Level) (siren beacon : Fin 8) (i : Interval) (ack retrieve : Bool) =>
     (⟨some next, some siren, some beacon, some i, true, ack, retrieve⟩ : ActionEntry)
   let level : PerClass ActionEntry :=
     { sensorLost := common, sensorBack := common, stageUp := common, stageDown := common
       rateHigh := common, rateNormal := common, flowHigh := common, flowNormal := common }
   factorySettings.actions =
     { l0 := { level with
         stageUp := step .watch 0 1 .m5 true false, rateHigh := step .watch 0 1 .m5 true false
         flowHigh := step .watch 0 1 .m5 true false, stageDown := { common with notice := false } }
       l1 := { level with
         stageUp := step .warning 2 2 .m2 true false, flowHigh := step .warning 2 2 .m2 true false
         stageDown := step .normal 0 0 .m15 false false
         rateHigh := { common with interval := some .m2 }, rateNormal := { common with interval := some .m5 } }
       l2 := { level with
         stageUp := step .danger 3 3 .m1 true true, stageDown := step .watch 0 1 .m5 false false
         rateHigh := { common with interval := some .m1 }, rateNormal := { common with interval := some .m2 }
         sensorLost := { common with retrieve := true } }
       l3 := { level with
         stageDown := step .warning 2 2 .m2 false false, sensorLost := { common with retrieve := true }
         stageUp := { common with notice := false } } } ∧
    factorySettings.ack = ⟨⟨30, 0, 0⟩, ⟨15, 0, 5⟩, ⟨10, 0, 5⟩, ⟨5, 4, 6⟩⟩) ∧
  ∀ (p : Port) (s : State), s.takes p →
    let fields := fun e : ActionEntry => (⟨e.next.map Level.toNat, e.siren.map Fin.val, e.beacon.map Fin.val,
      e.interval.map Interval.minutes, .named e.notice, .named e.ack, .named e.retrieve⟩ : ActionArgs)
    (∀ (level : Nat) (cls : Code TriggerClass) (a : ActionArgs) (b : AckArgs), s.save ≠ none →
      exec (.setAction p level cls a) s = .next (s.refusedOn p 0x49 .busy) ∧
      exec (.setAckSettings p b) s = .next (s.refusedOn p 0x4B .busy)) ∧
    (∀ (l : Level) (cls : TriggerClass) (e : ActionEntry), s.save = none →
      exec (.setAction p l.toNat (.named cls) (fields e)) s = .next (({ s with cfg := { s.cfg with
        actions := s.cfg.actions.set l ((s.cfg.actions.get l).set cls e) } }).answered p s.clock.time 0x49 .ok (.action e))) ∧
    (∀ (level : Nat) (cls : Code TriggerClass) (a : ActionArgs), s.save = none →
      (3 < level ∨ cls = .outside ∨ (∃ n, a.next = some n ∧ 3 < n) ∨ (∃ n, (a.siren = some n ∨ a.beacon = some n) ∧ 7 < n) ∨
        (∃ n, a.interval = some n ∧ n ∉ [1, 2, 5, 10, 15, 30, 60]) ∨ a.notice = .outside ∨ a.ack = .outside ∨ a.retrieve = .outside) →
      exec (.setAction p level cls a) s = .next (s.refusedOn p 0x49 .badValue)) ∧
    (∀ (l : Level) (cls : TriggerClass), exec (.getAction p l.toNat (.named cls)) s =
      .next (s.answered p s.clock.time 0x4A .ok (.action ((s.cfg.actions.get l).get cls)))) ∧
    (∀ (level : Nat) (cls : Code TriggerClass), 3 < level ∨ cls = .outside →
      exec (.getAction p level cls) s = .next (s.refusedOn p 0x4A .badValue)) ∧
    (∀ a : AckArgs, s.save = none →
      let badPattern := ∃ l n, (a.acked.get l = some n ∨ a.overdue.get l = some n) ∧ 7 < n
      (badPattern → exec (.setAckSettings p a) s = .next (s.refusedOn p 0x4B .badValue)) ∧
      (¬ badPattern → ∃ t : PerLevel AckSetting,
        (∀ l, (t.get l).timeoutMin = (inRangeOr 1 60 (a.timeout.get l) (s.cfg.ack.get l).timeoutMin).toNat ∧
          (t.get l).acked.val = (a.acked.get l).getD (s.cfg.ack.get l).acked.val ∧
          (t.get l).overdue.val = (a.overdue.get l).getD (s.cfg.ack.get l).overdue.val) ∧
        exec (.setAckSettings p a) s = .next (({ s with cfg := { s.cfg with ack := t } }).answered p s.clock.time 0x4B
          (if [a.timeout.l0, a.timeout.l1, a.timeout.l2, a.timeout.l3].any (outOfRange 1 60) then .okClamped else .ok)
          (.ackSettings t))))

/-- ACK of the level of the pending record clears it, hands the siren that level's acknowledged pattern and posts ACKED; another level
is STALE, no record NOTHING_PENDING, a level above 3 BAD_VALUE. A deadline expiry raises the overdue count, reloads the timer, hands
the overdue pattern and posts ACK_OVERDUE; an idle expiry releases the edit claim; each occurs only at a timer of 0 (log 8, the
model's choice; answers without fields: log 18) (R51, R93, R94, R95, R96). -/
def Obligations.AckAndTimers : Prop :=
  (∀ (p : Port) (s : State), s.takes p →
    (∀ level : Nat, 3 < level → exec (.ack p level) s = .next (s.refusedOn p 0x48 .badValue)) ∧
    (∀ l : Level, s.warning.ack = none → exec (.ack p l.toNat) s = .next (s.refusedOn p 0x48 .nothingPending)) ∧
    (∀ (l : Level) (r : AckRecord), s.warning.ack = some r →
      (r.level ≠ l → exec (.ack p l.toNat) s = .next (s.answered p s.clock.time 0x48 .stale (.stale r.level))) ∧
      (r.level = l → exec (.ack p l.toNat) s = .next ((({ s with
        warning := { s.warning with ack := none }
        outputs := { s.outputs with siren := s.outputs.siren.hand s.cfg.patterns (s.cfg.ack.get l).acked } }).postAll
        ⟨.acked, s.clock.time, some (.level l), some (.port p), some (.num r.overdue), false⟩).answered p s.clock.time 0x48 .ok
        (.acked l r.raised r.overdue))))) ∧
  (∀ s : State, s.powered = true →
    (∀ r : AckRecord, s.warning.ack = some r → r.timer = 0 →
      let n := min 255 (r.overdue + 1)
      exec .deadlineExpiry s = .next (({ s with
        warning := { s.warning with ack := some ⟨r.level, r.raised, (s.cfg.ack.get r.level).timeoutMin * 60, n, r.elapsed⟩ }
        outputs := { s.outputs with
          siren := s.outputs.siren.hand s.cfg.patterns (s.cfg.ack.get r.level).overdue } }).postAll
        ⟨.ackOverdue, s.clock.time, some (.level r.level), some (.num n), some (.num r.elapsed), false⟩)) ∧
    (s.warning.ack = none ∨ s.warning.ack.any (fun r => decide (0 < r.timer)) → exec .deadlineExpiry s = .next s) ∧
    (∀ q : Port, s.rating.claim = some q → s.rating.idle = 0 →
      exec .idleExpiry s = .next { s with rating := { s.rating with claim := none } }) ∧
    (s.rating.claim = none ∨ 0 < s.rating.idle → exec .idleExpiry s = .next s))

/-! ### Outputs and tables -/

/-- OUTPUT_TEST, its checks in order: an output or a pattern outside 1 to 7 is BAD_VALUE, a level above NORMAL is LEVEL_TOO_HIGH.
Otherwise the test record is opened, saving the engine's pattern or that of the test it replaces, the engine is handed the pattern,
and the answer gives the saved pattern and the duration. A number handed to an engine leaves it when it is the one it runs, puts it in
IDLE when it is 0, its timer and count then 0 (log 16), and else starts that pattern at ON; handed during a test it becomes the saved
pattern, and the end of a test hands the saved pattern to the engine (R103, R107, R108, R109; answers without fields: log 18). -/
def Obligations.OutputTestRequest : Prop :=
  (∀ (e : Engine) (t : PatternTable) (n : Fin 8), e.hand t n =
    if n = e.pattern then e else if n = 0 then ⟨0, .idle, 0, 0, false⟩
    else ⟨n, .on, ((t.get? n.val).map Pattern.onMs).getD 0, 1, true⟩) ∧
  (∀ (o : OutputState) (t : PatternTable) (n : Fin 8),
    (o.test = none → o.hand t n = ⟨o.engine.hand t n, none⟩ ∧ o.endTest t = o) ∧
    ∀ x : OutputTest, o.test = some x →
      o.hand t n = ⟨o.engine, some { x with saved := n }⟩ ∧ o.endTest t = ⟨o.engine.hand t x.saved, none⟩) ∧
  ∀ (p : Port) (pattern : Nat) (bursts : Int) (s : State), s.takes p →
    (∀ out : Code Output, out = .outside ∨ pattern = 0 ∨ 7 < pattern →
      exec (.outputTest p out pattern bursts) s = .next (s.refusedOn p 0x51 .badValue)) ∧
    ∀ (out : Output) (n : Fin 8) (r : Pattern), n.val = pattern → s.cfg.patterns.get? pattern = some r →
      (s.warning.level ≠ .normal → exec (.outputTest p (.named out) pattern bursts) s =
        .next (s.refusedOn p 0x51 .levelTooHigh)) ∧
      (s.warning.level = .normal →
        let b := (clamp 1 15 bursts).toNat
        let o := s.outputs.get out
        let saved : Fin 8 := (o.test.map OutputTest.saved).getD o.engine.pattern
        let engine : Engine := if n = o.engine.pattern then o.engine else ⟨n, .on, r.onMs, 1, true⟩
        exec (.outputTest p (.named out) pattern bursts) s =
          .next (({ s with outputs := s.outputs.set out ⟨engine, some ⟨n, b, saved, p⟩⟩ }).answered p s.clock.time 0x51
            (if isOutside 1 15 bursts then .okClamped else .ok)
            (.testStarted saved (if r.burst = 0 then b * (r.onMs + r.offMs)
              else b * r.burst * (r.onMs + r.offMs) + (b - 1) * r.pauseMs))))

/-- SET_PATTERN and SET_METER write one record whole and answer it as it stands; GET_PATTERN and GET_METER give it. Pattern times are
clamped and rounded to 100 ms; a meter's c, a and b_c are clamped, and bounds that do not ascend after clamping, a segment count
outside 1 to 3 and a number outside the table are refused. The factory records are those of the two tables (R100, R101, R120, R121,
R189). Answers without fields: log 18. -/
def Obligations.PatternAndMeterTables : Prop :=
  (factorySettings.patterns = ⟨⟨500, 1500, 0, 0⟩, ⟨1000, 1000, 5, 20000⟩, ⟨2000, 500, 0, 0⟩, ⟨2000, 2000, 3, 60000⟩,
      ⟨300, 300, 10, 10000⟩, ⟨10000, 100, 0, 0⟩, ⟨200, 800, 3, 5000⟩⟩ ∧
    factorySettings.meters = ⟨⟨1, [⟨some 1000, 9, 68500⟩, ⟨none, 4, 69000⟩]⟩, ⟨5, [⟨none, 6, 30500⟩]⟩,
      ⟨1, [⟨none, 0, 100000⟩]⟩, ⟨1, [⟨none, 0, 100000⟩]⟩⟩) ∧
  ∀ (p : Port) (s : State), s.takes p →
    (∀ (number : Nat) (onMs offMs burst pauseMs : Int) (index : Nat) (c : Int) (count : Nat) (segs : List SegmentArg),
      s.save ≠ none → exec (.setPattern p number onMs offMs burst pauseMs) s = .next (s.refusedOn p 0x52 .busy) ∧
        exec (.setMeter p index c count segs) s = .next (s.refusedOn p 0x63 .busy)) ∧
    (∀ (number : Nat) (onMs offMs burst pauseMs : Int), s.save = none →
      let tens := fun (lo hi v : Int) => roundDiv (clamp lo hi v) 100 * 100
      let r : Pattern := ⟨(tens 100 10000 onMs).toNat, (tens 100 10000 offMs).toNat, (clamp 0 15 burst).toNat,
        (tens 0 60000 pauseMs).toNat⟩
      (number = 0 ∨ 7 < number →
        exec (.setPattern p number onMs offMs burst pauseMs) s = .next (s.refusedOn p 0x52 .badValue)) ∧
      (1 ≤ number → number ≤ 7 → ∃ t : PatternTable,
        (t.get? number = some r ∧ ∀ k, k ≠ number → t.get? k = s.cfg.patterns.get? k) ∧
        exec (.setPattern p number onMs offMs burst pauseMs) s = .next (({ s with cfg := { s.cfg with patterns := t } }).answered p
          s.clock.time 0x52 (if decide (tens 100 10000 onMs ≠ onMs) || decide (tens 100 10000 offMs ≠ offMs) ||
            isOutside 0 15 burst || decide (tens 0 60000 pauseMs ≠ pauseMs) then .okClamped else .ok) (.pattern r)))) ∧
    (∀ number : Nat,
      (∀ r, s.cfg.patterns.get? number = some r →
        exec (.getPattern p number) s = .next (s.answered p s.clock.time 0x53 .ok (.pattern r))) ∧
      (number = 0 ∨ 7 < number → exec (.getPattern p number) s = .next (s.refusedOn p 0x53 .badValue))) ∧
    (∀ (index : Nat) (c : Int) (segs : List SegmentArg), s.save = none →
      let refused := fun count : Nat => exec (.setMeter p index c count segs) s = .next (s.refusedOn p 0x63 .badValue)
      (∀ count : Nat, meterOf index = none ∨ count = 0 ∨ 3 < count → refused count) ∧
      (∀ (m : MeterNo) (front : List (Int × Int × Int)) (a bc : Int), meterOf index = some m → front.length ≤ 2 →
        segs = front.map (fun x => ⟨some x.1, x.2.1, x.2.2⟩) ++ [⟨none, a, bc⟩] →
        let bounds := front.map (fun x => clamp 1 1000000 x.1)
        let new : Meter := ⟨clamp 1 10 c,
          front.map (fun x => ⟨some (clamp 1 1000000 x.1), clamp 0 999 x.2.1, clamp 1 200000 x.2.2⟩) ++
            [⟨none, clamp 0 999 a, clamp 1 200000 bc⟩]⟩
        let moved := isOutside 1 10 c || isOutside 0 999 a || isOutside 1 200000 bc || front.any (fun x =>
          isOutside 1 1000000 x.1 || isOutside 0 999 x.2.1 || isOutside 1 200000 x.2.2)
        (¬ bounds.Pairwise (· < ·) → refused segs.length) ∧
        (bounds.Pairwise (· < ·) → exec (.setMeter p index c segs.length segs) s =
          .next (({ s with cfg := { s.cfg with meters := s.cfg.meters.set m new } }).answered p s.clock.time 0x63
            (if moved then .okClamped else .ok) (.meter new))))) ∧
    (∀ index : Nat,
      (meterOf index = none ↔ index = 0 ∨ 4 < index) ∧
      (meterOf index = none → exec (.getMeter p index) s = .next (s.refusedOn p 0x64 .badValue)) ∧
      (∀ m, meterOf index = some m →
        exec (.getMeter p index) s = .next (s.answered p s.clock.time 0x64 .ok (.meter (s.cfg.meters.get m)))))

/-- A phase expiry by the table of R102, with the record of the engine's pattern as it stands: ON to OFF, OFF to ON or PAUSE by the
burst count, PAUSE to ON. In IDLE there is no expiry. Under a test an OFF expiry that completes a burst lowers bursts left, and the
last one ends the test and hands the saved pattern (R102, R108). The ms the row carries are those the timer counts; fewer than the
timer holds are counted off it (logs 5, 38), and a saved pattern that is the running one steps on (log 19), the model's choices. -/
def Obligations.PhaseExpiry : Prop :=
  ∀ (out : Output) (ms : Nat) (s : State), s.powered = true →
    let o := s.outputs.get out
    let e := o.engine
    let becomes := fun x : OutputState => exec (.phaseExpiry out ms) s = .next { s with outputs := s.outputs.set out x }
    (e.phase = .idle → becomes o) ∧
    (e.phase ≠ .idle → ms < e.timer → becomes { o with engine := { e with timer := e.timer - ms } }) ∧
    (e.phase ≠ .idle → e.timer ≤ ms → ∀ r : Pattern, s.cfg.patterns.get? e.pattern.val = some r →
      let on := fun n : Nat => (⟨e.pattern, .on, r.onMs, n, true⟩ : Engine)
      let next : Engine :=
        if e.phase = .on then ⟨e.pattern, .off, r.offMs, e.count, false⟩
        else if e.phase = .pause then on 1
        else if r.burst = 0 then on e.count
        else if e.count < r.burst then on (e.count + 1)
        else if r.pauseMs = 0 then on 1
        else ⟨e.pattern, .pause, r.pauseMs, 0, false⟩
      let counted := e.phase = .off ∧ (r.burst = 0 ∨ r.burst ≤ e.count)
      (o.test = none → becomes ⟨next, none⟩) ∧
      (∀ x : OutputTest, o.test = some x →
        (¬ counted → becomes ⟨next, some x⟩) ∧
        (counted → 1 < x.bursts → becomes ⟨next, some { x with bursts := x.bursts - 1 }⟩) ∧
        (counted → x.bursts ≤ 1 → x.saved ≠ e.pattern → becomes ⟨e.hand s.cfg.patterns x.saved, none⟩) ∧
        (counted → x.bursts ≤ 1 → x.saved = e.pattern → becomes ⟨next, none⟩)))

/-! ### Cableway -/

/-- METER_CLOSURE: the timebase counts on, an exposure that reaches T before the closure expires first, and the closure is counted
when none was counted before or the dead time has passed since, raising the spin count and P; otherwise it is ignored. EXPOSURE_EXPIRY
ends an exposure that has reached T with t = T, and its point joins the vertical under work; one that waits on the last ms leaves the
exposure RUNNING at T, for what falls together with it (R119, R123, R124, R128, R146; that the rows carry the ms counted and
whether the expiry waits is log 5, and that the point keeps the POSITION_FAULT state of its exposure start is log 36). -/
def Obligations.ClosuresAndExpiries : Prop :=
  ∀ (ms : Nat) (s : State), s.powered = true →
    let w := s.cableway
    let later := (fun x : Exposure => { x with elapsed := min x.target (x.elapsed + ms) } : Exposure → Exposure)
    let counted : Bool := (w.lastClosure.map (fun l => decide (s.cfg.counters.deadMs ≤ w.now + ms - l))).getD true
    let full := fun x : Exposure =>
      let v := pointSpeed (s.cfg.meters.get x.meter) x.pulses x.target
      (⟨x.meter, x.startTime, x.depth, x.target, x.pulses, v.nm, v.segment, v.velocity, ⟨false, false, v.clamped, false⟩⟩
        : PointResult)
    let arrived := fun (u : State) (c : RunContext) (v : Vertical) (f : Fraction) (x : Exposure) =>
      ({ u with
        cableway := { u.cableway with exposure := none, lastPoint := some (full x) }
        run := { u.run with ctx := some { c with phase := .rest (.points { v with
          points := v.points ++ [⟨full x, x.posFault, f, s.readStage, decide (s.sensing.sensorState ≠ .ok), false⟩] }) } } } : State)
    ((w.exposure.all (fun x => decide (x.elapsed + ms ≤ x.target)) = true) →
      exec (.meterClosure ms) s = .next { s with cableway :=
        if counted then
          { w with
            now := w.now + ms, lastClosure := some (w.now + ms), spin := (w.spin + 1) % 4294967296
            exposure := w.exposure.map (fun x => { later x with pulses := x.pulses + 1 }) }
        else { w with now := w.now + ms, exposure := w.exposure.map later } }) ∧
    (∀ (c : RunContext) (v : Vertical) (f : Fraction) (x : Exposure), s.run.ctx = some c → c.phase = .exposing v f →
      w.exposure = some x →
      (x.target < x.elapsed + ms → exec (.meterClosure ms) s = .next (arrived { s with cableway :=
        if counted then { w with now := w.now + ms, lastClosure := some (w.now + ms), spin := (w.spin + 1) % 4294967296 }
        else { w with now := w.now + ms } } c v f x)) ∧
      (∀ waits : Bool, x.target < x.elapsed + ms ∨ (x.target = x.elapsed + ms ∧ waits = false) →
        exec (.exposureExpiry ⟨ms, waits⟩) s = .next (arrived { s with cableway := { w with now := w.now + ms } } c v f x))) ∧
    (∀ waits : Bool,
      (w.exposure.all (fun x => decide (x.elapsed + ms < x.target ∨ (x.elapsed + ms = x.target ∧ waits = true))) = true) →
      exec (.exposureExpiry ⟨ms, waits⟩) s = .next { s with cableway := { w with
        now := w.now + ms, exposure := w.exposure.map later } })

/-- SET_INITIAL_POINT sets ip_offset so that the station reads the value given, both clamped, clears POSITION_FAULT and answers the
station it gives with its CLAMPED mark; SURFACE_MARK sets s_mark to the depth counted now and clears SOUNDING_FAULT; READ_POSITION
gives the position and changes nothing but the port's answer (R113, R114, R116, R117, R131). -/
def Obligations.PositionRequests : Prop :=
  ∀ (p : Port) (v : Int) (s : State), s.takes p →
    let w := s.cableway
    let at' := roundDiv (w.traverse.count * s.cfg.counters.traversePitchNm) 1000000
    let down := roundDiv (w.sounding.count * s.cfg.counters.soundingPitchNm) 1000000
    let offset := clamp (-2000000000) 2000000000 (clamp 0 1000000 v - at')
    exec (.setInitialPoint p v) s = .next (({ s with
      cableway := { w with ipOffset := offset, traverse := { w.traverse with fault := none } } }).answered p s.clock.time 0x61
      (if isOutside 0 1000000 v || isOutside (-2000000000) 2000000000 (clamp 0 1000000 v - at') then .okClamped else .ok)
      (.initialPoint offset ⟨clamp 0 1000000 (offset + at'), isOutside 0 1000000 (offset + at')⟩)) ∧
    exec (.surfaceMark p) s = .next (({ s with
      cableway := { w with sMark := clamp (-2000000000) 2000000000 down, sounding := { w.sounding with fault := none } } }).answered
      p s.clock.time 0x62 (if isOutside (-2000000000) 2000000000 down then .okClamped else .ok)
      (.surfaceMark (clamp (-2000000000) 2000000000 down))) ∧
    (let k := s.cfg.counters
     let station := clampMarked 0 1000000 (w.ipOffset + roundDiv (w.traverse.count * k.traversePitchNm) 1000000)
     exec (.readPosition p) s = .next (s.answered p s.clock.time 0x60 .ok (.position
      ⟨station, w.traverse.count, w.ipOffset, w.traverse.fault, ⟨clamp 0 30000 (down - w.sMark), decide (30000 < down - w.sMark)⟩,
        w.sounding.count, w.sMark, w.sounding.fault, w.spin,
        w.exposure.map (fun x => ⟨x.meter, x.target, x.startTime, x.elapsed, x.pulses⟩), w.lastPoint⟩)))

/-! ### The gauging run -/

/-- OPEN_RUN: refused with WRONG_STATE while a run is open (its holder is heard) or the stage is absent, and with BAD_VALUE for a
meter outside 1 to 4; otherwise a run in OPEN is formed with the next number, wrapping to 1, its T and coefficient clamped, the list
is emptied and the entry in progress has its run flag set (R134, R135, R136, R139). Answers without fields: log 18. -/
def Obligations.OpenRun : Prop :=
  ∀ (p : Port) (meter : Nat) (target : Int) (coeff : Option Int) (s : State), s.takes p →
    let run := exec (.openRun p meter target coeff) s
    let wrong := fun u : State => run = .next (u.refusedOn p 0x71 .wrongState)
    (∀ c : RunContext, s.run.ctx = some c →
      (c.holder = some p → wrong (s.setCtx (c.heard s.clock.time))) ∧ (c.holder ≠ some p → wrong s)) ∧
    (s.run.ctx = none → s.sensing.record.sample.value = none → wrong s) ∧
    (s.run.ctx = none → s.sensing.record.sample.value ≠ none → meter = 0 ∨ 4 < meter →
      run = .next (s.refusedOn p 0x71 .badValue)) ∧
    (s.run.ctx = none → s.sensing.record.sample.value ≠ none → s.run.counter ≤ 4294967295 → ∀ m : MeterNo, meterOf meter = some m →
      let n := if s.run.counter = 4294967295 then 1 else s.run.counter + 1
      let t := (clamp 20000 120000 target).toNat
      let k := inRangeOr 700 1000 coeff 860
      let held := decide (s.sensing.sensorState ≠ .ok)
      run = .next (({ s with
        run := { s.run with
          ctx := some ⟨.opened, n, some p, s.clock.time, 0, m, t, k, none, s.clock.time, s.readStage, false, 0, 0, held⟩
          verticals := [], counter := n, listTotal := none }
        log := { s.log with entry := { s.log.entry with runFlag := true } } }).answered p s.clock.time 0x71
        (if isOutside 20000 120000 target || outOfRange 700 1000 coeff then .okClamped else .ok)
        (.runOpened n s.readStage m t k)))

/-- TAKE_RUN by the table of R137: taken by the holder, by any port while the run is UNHELD, and from a holder silent for 120 s or
more, who is posted HOLDER_LOST; refused with HELD_BY_OTHER before that, and with WRONG_STATE in IDLE (R136, R137; that the taking
also sets the last run-request time is log 20). Answers without fields: log 18. -/
def Obligations.TakeRun : Prop :=
  ∀ (p : Port) (s : State), s.takes p →
    let run := exec (.takeRun p) s
    (s.run.ctx = none → run = .next (s.refusedOn p 0x72 .wrongState)) ∧
    ∀ c : RunContext, s.run.ctx = some c →
      let taken := s.setCtx { c.heard s.clock.time with holder := some p }
      ((c.holder = some p ∨ c.holder = none) → run = .next (taken.answered p s.clock.time 0x72 .ok .empty)) ∧
      (∀ q : Port, q ≠ p → c.holder = some q →
        (120 ≤ c.quiet → run = .next ((taken.postTo q
          ⟨.holderLost, s.clock.time, some (.num c.number), some (.port p), some (.num c.quiet), false⟩).answered p s.clock.time 0x72
          .ok .empty)) ∧
        (c.quiet < 120 → run = .next (s.answered p s.clock.time 0x72 .heldByOther (.heldBy q c.quiet))))

/-- The checks on a run request that needs the claim, in their order: WRONG_STATE in IDLE; NOT_HOLDER from a port that does not hold
the run; from the holder, who is heard, WRONG_STATE in a state that does not take the request (R133, R135, R136). Answers without
fields: log 18. -/
def Obligations.RunRequestChecks : Prop :=
  ∀ (i : Instr) (r : Request) (s : State), requestOf i = some r → runStatesOf i ≠ [] → s.takes r.port →
    (s.run.ctx = none → exec i s = .next (s.refusedOn r.port r.code .wrongState)) ∧
    ∀ c : RunContext, s.run.ctx = some c →
      (c.holder ≠ some r.port → exec i s = .next (s.refusedOn r.port r.code .notHolder)) ∧
      (c.holder = some r.port → s.runState ∉ runStatesOf i →
        exec i s = .next ((s.setCtx (c.heard s.clock.time)).refusedOn r.port r.code .wrongState))

/-- MARK_EDGE START in OPEN forms the start edge from the station and stage now, with its depth and factor clamped, and takes the run
to READY; a side that is neither START nor END is BAD_VALUE in OPEN and READY. MARK_BED in SOUNDING takes the sounded depth and goes
to POINTS (R113, R116, R133, R140, R142, R144). Answers without fields: log 18. -/
def Obligations.EdgeAndBed : Prop :=
  ∀ (p : Port) (s : State) (c : RunContext), s.takes p → s.holds p c →
    let h := c.heard s.clock.time
    let w := s.cableway
    let here := clampMarked 0 1000000
      (w.ipOffset + roundDiv (w.traverse.count * s.cfg.counters.traversePitchNm) 1000000)
    let station : StationReading := ⟨here.mm, here.clamped, w.traverse.fault, w.sounding.fault⟩
    let held := decide (s.sensing.sensorState ≠ .ok)
    (∀ depth factor : Int, c.phase = .opened →
      let edge : Vertical :=
        { index := 0, kind := .startEdge, station := station, depth := some ⟨clamp 0 30000 depth, .given⟩, method := none
          factor := some (clamp 0 1000 factor), angle := some 1000, points := [], mean := none, stage := some s.readStage
          partialQ := none, partialA := none
          marks := ⟨w.traverse.fault.isSome || w.sounding.fault.isSome, false, here.clamped, held⟩ }
      exec (.markEdgeStart p .start depth factor) s = .next (({ s with run := { s.run with
        ctx := some { h with phase := .rest .ready, heldStage := c.heldStage || held }
        verticals := s.run.verticals ++ [edge] } }).answered p s.clock.time 0x73
        (if isOutside 0 30000 depth || isOutside 0 1000 factor then .okClamped else .ok) (.station station))) ∧
    (∀ depth factor : Int, c.phase = .opened ∨ c.phase = .rest .ready →
      exec (.markEdgeStart p .other depth factor) s = .next ((s.setCtx h).refusedOn p 0x73 .badValue)) ∧
    (∀ v : Vertical, c.phase = .rest (.sounding v) →
      let raw := roundDiv (w.sounding.count * s.cfg.counters.soundingPitchNm) 1000000 - w.sMark
      let d : VerticalDepth := ⟨clamp 0 30000 raw, .sounded (decide (30000 < raw)) w.traverse.fault w.sounding.fault⟩
      exec (.markBed p) s = .next ((s.setCtx { h with phase := .rest (.points { v with depth := some d }) }).answered p
        s.clock.time 0x75 .ok (.depth d)))

/-- BEGIN_VERTICAL in READY: FULL at 47 verticals; OUT_OF_ORDER unless the station now is strictly beyond the last in the run's
direction, or, while the direction is absent, differs from the start edge's; otherwise a vertical under work is formed with that
station, the direction is set if it was absent, and the run is SOUNDING (R113, R133, R143). Answers without fields: log 18. -/
def Obligations.BeginVertical : Prop :=
  ∀ (p : Port) (s : State) (c : RunContext) (front : List Vertical) (last : Vertical), s.takes p → s.holds p c →
    c.phase = .rest .ready → s.run.verticals = front ++ [last] →
    let h := c.heard s.clock.time
    let run := exec (.beginVertical p) s
    let here := clampMarked 0 1000000
      (s.cableway.ipOffset + roundDiv (s.cableway.traverse.count * s.cfg.counters.traversePitchNm) 1000000)
    let station : StationReading := ⟨here.mm, here.clamped, s.cableway.traverse.fault, s.cableway.sounding.fault⟩
    let first := ((front ++ [last]).map (fun v => v.station.mm)).headD 0
    let work : Vertical :=
      { index := front.length + 1, kind := .interior, station := station, depth := none, method := none, factor := none
        angle := none, points := [], mean := none, stage := none, partialQ := none, partialA := none
        marks := ⟨false, false, false, false⟩ }
    let begun := fun d : Direction => run = .next ((s.setCtx { h with
      phase := .rest (.sounding work), direction := some d }).answered p s.clock.time 0x74 .ok (.station station))
    let disordered := run = .next ((s.setCtx h).answered p s.clock.time 0x74 .outOfOrder (.outOfOrder here last.station.mm))
    (46 ≤ front.length → run = .next ((s.setCtx h).refusedOn p 0x74 .full)) ∧
    (front.length < 46 →
      (c.direction = some .ascending → if last.station.mm < here.mm then begun .ascending else disordered) ∧
      (c.direction = some .descending → if here.mm < last.station.mm then begun .descending else disordered) ∧
      (c.direction = none →
        if first < here.mm then begun .ascending else if here.mm < first then begun .descending else disordered))

/-- START_POINT in POINTS: BAD_VALUE for a fraction that is not 0, 2, 6 or 8, FULL at 4 points; otherwise an exposure is started with
the run's meter and T, the depth now and both fault flags (log 36), and the run is EXPOSING. STOP_POINT in EXPOSING ends the exposure
with its elapsed time, SHORT, and DISCARDED without a velocity below 15,000 ms, and the point joins the vertical under work in POINTS
(R116, R123, R125, R128, R133, R141, R145, R146). Answers without fields: log 18. -/
def Obligations.Points : Prop :=
  ∀ (p : Port) (s : State) (c : RunContext), s.takes p → s.holds p c →
    let h := c.heard s.clock.time
    (∀ (v : Vertical) (fraction : Nat), c.phase = .rest (.points v) →
      let run := exec (.startPoint p fraction) s
      (fraction ∉ [0, 2, 6, 8] → run = .next ((s.setCtx h).refusedOn p 0x76 .badValue)) ∧
      (fraction ∈ [0, 2, 6, 8] → 4 ≤ v.points.length → run = .next ((s.setCtx h).refusedOn p 0x76 .full)) ∧
      (∀ f : Fraction, fractionOf fraction = some f → v.points.length < 4 →
        let raw := roundDiv (s.cableway.sounding.count * s.cfg.counters.soundingPitchNm) 1000000 - s.cableway.sMark
        let x : Exposure := ⟨c.meter, c.target, s.clock.time, 0, 0,
          ⟨clamp 0 30000 raw, decide (30000 < raw), s.cableway.sounding.fault⟩, s.cableway.traverse.fault⟩
        run = .next (({ s.setCtx { h with phase := .exposing v f } with
          cableway := { s.cableway with exposure := some x } }).answered p s.clock.time 0x76 .ok
          (.pointStarted s.clock.time c.target)))) ∧
    (fractionOf 0 = some .surface ∧ fractionOf 2 = some .two ∧ fractionOf 6 = some .six ∧ fractionOf 8 = some .eight) ∧
    (∀ (v : Vertical) (f : Fraction) (x : Exposure), c.phase = .exposing v f → s.cableway.exposure = some x →
      let speed := pointSpeed (s.cfg.meters.get x.meter) x.pulses x.elapsed
      let r : PointResult :=
        if x.elapsed < 15000 then
          ⟨x.meter, x.startTime, x.depth, x.elapsed, x.pulses, none, none, none, ⟨true, true, false, false⟩⟩
        else ⟨x.meter, x.startTime, x.depth, x.elapsed, x.pulses, speed.nm, speed.segment, speed.velocity,
          ⟨true, false, speed.clamped, false⟩⟩
      let q : Point := ⟨r, x.posFault, f, s.readStage, decide (s.sensing.sensorState ≠ .ok), false⟩
      exec (.stopPoint p) s = .next (({ s.setCtx { h with phase := .rest (.points { v with points := v.points ++ [q] }) } with
        cableway := { s.cableway with exposure := none, lastPoint := some r } }).answered p s.clock.time 0x77 .ok (.point q)))

/-- END_VERTICAL in POINTS takes a method and a clamped angle and goes to REVIEW; ALTER in REVIEW applies its fields in order, Exclude
before Include, all or, with a bad method or index, none; REDO in REVIEW drops points, method and angle and goes back to POINTS, or to
SOUNDING without the depth (R133, R147, R148, R149, R151). Answers without fields: log 18. -/
def Obligations.ReviewRequests : Prop :=
  ∀ (p : Port) (s : State) (c : RunContext) (v : Vertical), s.takes p → s.holds p c →
    let h := c.heard s.clock.time
    let rests := fun (r : Rest) (code : Byte) (st : Status) (b : Body) =>
      ((s.setCtx { h with phase := .rest r }).answered p s.clock.time code st b : State)
    let bad := fun code : Byte => ((s.setCtx h).refusedOn p code .badValue : State)
    (∀ angle : Int, c.phase = .rest (.points v) →
      exec (.endVertical p .outside angle) s = .next (bad 0x78) ∧
      ∀ m : Method,
        let w := { v with method := some m, angle := some (clamp 500 1000 angle) }
        exec (.endVertical p (.named m) angle) s = .next (rests (.review w) 0x78
          (if isOutside 500 1000 angle then .okClamped else .ok) (.vertical w w.complete))) ∧
    (∀ a : AlterArgs, c.phase = .rest (.review v) →
      let flag := fun (i : Option Nat) (b : Bool) (qs : List Point) => ((i.map (fun j =>
        qs.modify j (fun q => { q with excluded := b }))).getD qs : List Point)
      let refused := a.method = some .outside ∨ (∃ i, (a.excl = some i ∨ a.incl = some i) ∧ v.points.length ≤ i)
      let w := { v with
        depth := (a.depth.map (fun d => ⟨clamp 0 30000 d, .altered⟩)).orElse (fun _ => v.depth)
        method := if a.method = none then v.method else [Method.one, .two, .surf].find? (fun m => decide (a.method = some (.named m)))
        angle := (a.angle.map (clamp 500 1000)).orElse (fun _ => v.angle)
        points := flag a.incl false (flag a.excl true v.points) }
      (refused → exec (.alter p a) s = .next (bad 0x79)) ∧
      (¬ refused → exec (.alter p a) s = .next (rests (.review w) 0x79
        (if outOfRange 0 30000 a.depth || outOfRange 500 1000 a.angle then .okClamped else .ok) (.vertical w w.complete)))) ∧
    (c.phase = .rest (.review v) →
      let w := { v with points := [], method := none, angle := none }
      exec (.redo p .outside) s = .next (bad 0x7B) ∧
      exec (.redo p (.named true)) s = .next (rests (.points w) 0x7B .ok .empty) ∧
      exec (.redo p (.named false)) s = .next (rests (.sounding { w with depth := none }) 0x7B .ok .empty))

/-- The point velocity of P closures in t ms: 0 with no segment when P is 0; otherwise n_m is the rounded 1,000,000 P / (c t), the
first segment whose bound is at least n_m is used, the last one where none is, and the velocity is a plus the rounded 10 b_c P / (c
t), at most 9,999 mm/s with CLAMPED. A vertical is complete for ONE with a used point at 0.6, for TWO with used points at 0.2 and 0.8,
for SURF with a used point at the surface; the used point of a fraction is the latest that is neither DISCARDED nor excluded, and the
method velocity is that of the used point, the rounded mean of two, or the surface velocity times the coefficient (R126, R127, R141,
R149, R161, R162). -/
def Obligations.Velocities : Prop :=
  (∀ (m : Meter) (pulses t : Nat),
    pointSpeed m 0 t = ⟨some 0, none, some 0, false⟩ ∧
    (0 < pulses →
      let nm := roundDiv (1000000 * pulses) (m.c * t)
      ∀ (pre post : List MeterSegment) (x : MeterSegment), m.segs = pre ++ x :: post →
        (∀ y ∈ pre, ∃ b : Int, y.bound = some b ∧ b < nm) → (post = [] ∨ ∃ b : Int, x.bound = some b ∧ nm ≤ b) →
        let v := x.a + roundDiv (10 * x.bc * pulses) (m.c * t)
        pointSpeed m pulses t = ⟨some nm, some (pre.length + 1), some (min v 9999), decide (9999 < v)⟩)) ∧
  (∀ (f : Fraction) (pts later : List Point) (q : Point), q.fraction = f → q.result.marks.discarded = false → q.excluded = false →
    (∀ x ∈ later, x.fraction = f → x.result.marks.discarded = true ∨ x.excluded = true) →
    usedPoint f (pts ++ q :: later) = some q) ∧
  (∀ (f : Fraction) (pts : List Point), (∀ x ∈ pts, x.fraction = f → x.result.marks.discarded = true ∨ x.excluded = true) →
    usedPoint f pts = none) ∧
  ∀ (v : Vertical) (coeff angle : Int),
    let at' := fun f : Fraction => ((usedPoint f v.points).bind (fun q => q.result.velocity)).getD 0
    (v.method = none → v.complete = false) ∧
    (v.method = some .one → (v.complete = true ↔ usedPoint .six v.points ≠ none)) ∧
    (v.method = some .two →
      (v.complete = true ↔ usedPoint .two v.points ≠ none ∧ usedPoint .eight v.points ≠ none)) ∧
    (v.method = some .surf → (v.complete = true ↔ usedPoint .surface v.points ≠ none)) ∧
    interiorMean coeff .one angle v.points = roundDiv (at' .six * angle) 1000 ∧
    interiorMean coeff .two angle v.points = roundDiv (roundDiv (at' .two + at' .eight) 2 * angle) 1000 ∧
    interiorMean coeff .surf angle v.points = roundDiv (roundDiv (at' .surface * coeff) 1000 * angle) 1000

/-- ACCEPT in REVIEW: INCOMPLETE naming the fractions missing, or the vertical joins the list with its mean velocity, the stage now
and its marks (of its station, of a SOUNDED depth and of its used points, for which both fault flags of the exposure start count, log
36), the vertical before it is finalised (its discharge its mean times depth times span, halved; its area depth times span, halved),
both are added to the sums, VERTICAL_ACCEPTED is posted and the run is READY (R140, R150, R162, R163, R164, R165). -/
def Obligations.AcceptVertical : Prop :=
  ∀ (p : Port) (s : State) (c : RunContext) (v : Vertical), s.takes p → s.holds p c → c.phase = .rest (.review v) →
    let h := c.heard s.clock.time
    (v.method = none → exec (.accept p) s =
      .next ((s.setCtx h).answered p s.clock.time 0x7A .incomplete (.missing []))) ∧
    ∀ m : Method, v.method = some m →
      (v.complete = false → exec (.accept p) s = .next ((s.setCtx h).answered p s.clock.time 0x7A .incomplete
        (.missing ((match m with | .one => [Fraction.six] | .two => [.two, .eight] | .surf => [.surface]).filter
          (fun f => (usedPoint f v.points).isNone))))) ∧
      (v.complete = true → ∀ (front : List Vertical) (last : Vertical), s.run.verticals = front ++ [last] →
        let held := decide (s.sensing.sensorState ≠ .ok)
        let mean := interiorMean c.coeff m (v.angle.getD 1000) v.points
        let used := [Fraction.surface, .two, .six, .eight].filterMap (fun f => usedPoint f v.points)
        let sounded := fun (g : Bool → Option FaultCause → Option FaultCause → Bool) => v.depth.any (fun d =>
          match d.source with | .sounded k a b => g k a b | _ => false)
        let marks : VerticalMarks :=
          { positionFault := v.station.posFault.isSome || v.station.sndFault.isSome ||
              sounded (fun _ a b => a.isSome || b.isSome) ||
              used.any (fun q => q.result.depth.fault.isSome || q.posFault.isSome)
            short := used.any (fun q => q.result.marks.short)
            clamped := v.station.clamped || sounded (fun k _ _ => k) || used.any (fun q => q.result.marks.clamped)
            heldStage := held }
        let w := { v with mean := some mean, stage := some s.readStage, marks := marks }
        let before := (front.getLast?.map (fun x => x.station.mm)).getD 0
        let span := if last.kind = .startEdge then |v.station.mm - last.station.mm| else |v.station.mm - before|
        let d := (last.depth.map (fun x => x.mm)).getD 0
        let lastMean := if last.kind = .startEdge then roundDiv (last.factor.getD 0 * mean) 1000 else last.mean.getD 0
        let done := { last with
          mean := some lastMean, partialQ := some (roundDiv (lastMean * d * span) 2000), partialA := some (roundDiv (d * span) 2) }
        last.kind = .startEdge ∨ (last.kind = .interior ∧ front ≠ []) → exec (.accept p) s = .next ((({ s with run := { s.run with
          ctx := some { h with
            phase := .rest .ready, heldStage := c.heldStage || held
            qSum := c.qSum + roundDiv (lastMean * d * span) 2000, aSum := c.aSum + roundDiv (d * span) 2 }
          verticals := front ++ [done, w] } }).postAll
          ⟨.verticalAccepted, s.clock.time, some (.num c.number), some (.num v.index), some (.num mean), false⟩).answered p
          s.clock.time 0x7A .ok
          (.accepted w (c.qSum + roundDiv (lastMean * d * span) 2000) (c.aSum + roundDiv (d * span) 2))))

/-- MARK_EDGE END in READY: TOO_FEW below 3 interior verticals, OUT_OF_ORDER unless the station is strictly beyond the last; otherwise
the end edge joins the list, the last interior vertical is finalised with it as successor, then the edge with that vertical as its
neighbour, both are added to the sums and the run is FINISHED (R113, R143, R152, R163, R164, R165). Answers without fields: log 18. -/
def Obligations.MarkEdgeEnd : Prop :=
  ∀ (p : Port) (depth factor : Int) (s : State) (c : RunContext), s.takes p → s.holds p c → c.phase = .rest .ready →
    let h := c.heard s.clock.time
    let run := exec (.markEdgeEnd p depth factor) s
    let interiors := (s.run.verticals.filter (fun v => decide (v.kind = .interior))).length
    let here := clampMarked 0 1000000
      (s.cableway.ipOffset + roundDiv (s.cableway.traverse.count * s.cfg.counters.traversePitchNm) 1000000)
    (interiors < 3 → run = .next ((s.setCtx h).refusedOn p 0x73 .tooFew)) ∧
    (3 ≤ interiors → ∀ (front : List Vertical) (prior last : Vertical), s.run.verticals = front ++ [prior, last] →
      last.kind = .interior → ∀ dir : Direction, c.direction = some dir →
      let past := if dir = .ascending then last.station.mm < here.mm else here.mm < last.station.mm
      let held := decide (s.sensing.sensorState ≠ .ok)
      let vm := last.mean.getD 0
      let d1 := (last.depth.map (fun x => x.mm)).getD 0
      let span1 := |here.mm - prior.station.mm|
      let done := { last with
        mean := some vm, partialQ := some (roundDiv (vm * d1 * span1) 2000), partialA := some (roundDiv (d1 * span1) 2) }
      let em := roundDiv (clamp 0 1000 factor * vm) 1000
      let d2 := clamp 0 30000 depth
      let span2 := |here.mm - last.station.mm|
      let edge : Vertical :=
        { index := front.length + 2, kind := .endEdge
          station := ⟨here.mm, here.clamped, s.cableway.traverse.fault, s.cableway.sounding.fault⟩
          depth := some ⟨d2, .given⟩, method := none, factor := some (clamp 0 1000 factor), angle := some 1000, points := []
          mean := some em, stage := some s.readStage, partialQ := some (roundDiv (em * d2 * span2) 2000)
          partialA := some (roundDiv (d2 * span2) 2)
          marks := ⟨s.cableway.traverse.fault.isSome || s.cableway.sounding.fault.isSome, false, here.clamped, held⟩ }
      let q := c.qSum + roundDiv (vm * d1 * span1) 2000 + roundDiv (em * d2 * span2) 2000
      let a := c.aSum + roundDiv (d1 * span1) 2 + roundDiv (d2 * span2) 2
      (¬ past → run = .next ((s.setCtx h).refusedOn p 0x73 .outOfOrder)) ∧
      (past → run = .next (({ s with run := { s.run with
        ctx := some { h with phase := .finished, heldStage := c.heldStage || held, qSum := q, aSum := a }
        verticals := front ++ [prior, done, edge] } }).answered p s.clock.time 0x73
        (if isOutside 0 30000 depth || isOutside 0 1000 factor then .okClamped else .ok) (.accepted edge q a))))

/-- CLOSE_RUN in FINISHED computes the result from the list: Q and A are the sums of the partial values, the mean velocity Q over A,
the gauge height the discharge-weighted stage, and the shift the difference from the rated discharge of that height in per-mille;
ABANDON_RUN, in every state but IDLE, gives a result of the finalised sums alone, discards an exposure and releases RETRIEVE. Both put
the result in the ring of 8, post RUN_CLOSED and end the run (R106, R130, R153, R154, R167, R168, R169, R170, R171). Answers without
fields: log 18. -/
def Obligations.CloseAndAbandon : Prop :=
  ∀ (p : Port) (s : State) (c : RunContext), s.takes p → s.holds p c →
    let vs := s.run.verticals
    let join := fun r : RunResult => (if s.run.results.length < 8 then s.run.results ++ [r] else s.run.results.tail ++ [r])
    let ended := fun (u : State) (r : RunResult) (way : Param) =>
      (({ u with run := { s.run with
        ctx := none, listTotal := if vs = [] then none else some r.q, results := join r } }).postAll
        ⟨.runClosed, s.clock.time, some (.num c.number), some way, some (.num vs.length), false⟩ : State)
    (c.phase = .finished →
      let q := partialQSum vs
      let a := partialASum vs
      let raw := roundDiv (q * 1000) a
      let stageOf := fun x : Option StageReading => ((x.bind StageReading.value).getD 0 : Int)
      let gh := if q = 0 then roundDiv (stageOf (some c.stageAtOpen) + stageOf (some s.readStage)) 2
        else roundDiv ((vs.map (fun v => v.partialQ.getD 0 * stageOf v.stage)).sum) q
      let rated := ratedDischarge s.cfg.bank gh
      let shift := roundDiv ((q - rated.q * 1000) * 1000) (rated.q * 1000)
      let r : RunResult :=
        { number := c.number, openTime := c.openTime, closeTime := s.clock.time, meter := c.meter, verticals := vs.length
          finalised := none, q := q, area := a, meanVelocity := some (if a = 0 then 0 else min raw 9999)
          stageAtOpen := c.stageAtOpen, stageAtClose := some s.readStage, gaugeHeight := some gh, ratedQ := some rated.q
          generation := some s.rating.generation, shift := if rated.q = 0 then none else some (clamp (-999) 999 shift)
          marks := ⟨false, c.retrieveMark, c.heldStage, rated.marks.below, rated.marks.beyond,
            (decide (a ≠ 0) && decide (9999 < raw)) || rated.marks.clamped ||
              (decide (rated.q ≠ 0) && isOutside (-999) 999 shift)⟩ }
      exec (.closeRun p) s = .next ((ended s r .closed).answered p s.clock.time 0x7C .ok (.result r))) ∧
    (let r : RunResult :=
      { number := c.number, openTime := c.openTime, closeTime := s.clock.time, meter := c.meter, verticals := vs.length
        finalised := some (vs.filter (fun v => v.partialQ.isSome)).length, q := c.qSum, area := c.aSum, meanVelocity := none
        stageAtOpen := c.stageAtOpen, stageAtClose := none, gaugeHeight := none, ratedQ := none, generation := none, shift := none
        marks := ⟨true, c.retrieveMark, c.heldStage, false, false, false⟩ }
     let released : State := { s with
       cableway := if s.runState = .exposing then { s.cableway with exposure := none } else s.cableway
       outputs := if s.runState = .retrieving then { s.outputs with retrieve := false } else s.outputs }
     exec (.abandonRun p) s = .next ((ended released r .abandoned).answered p s.clock.time 0x7D .ok .empty))

/-- RESUME_RUN in RETRIEVING: refused with LEVEL_TOO_HIGH at or above the stop level; otherwise the run is in its return state and the
RETRIEVE line is released. SET_RUN_SETTINGS sets the stop level, 1 to 3, from the factory 3; another value is BAD_VALUE, a save BUSY;
GET_RUN_SETTINGS gives it. GET_RUN gives the run as it stands and changes nothing but the port's answer (R106, R133, R156, R157,
R158). Answers without fields: log 18. -/
def Obligations.ResumeStopLevelAndGetRun : Prop :=
  factorySettings.stopLevel.toNat = 3 ∧
  ∀ (p : Port) (s : State), s.takes p →
    (∀ (c : RunContext) (r : Rest), s.holds p c → c.phase = .retrieving r →
      let h := c.heard s.clock.time
      (s.cfg.stopLevel.toNat ≤ s.warning.level.toNat →
        exec (.resumeRun p) s = .next ((s.setCtx h).refusedOn p 0x7E .levelTooHigh)) ∧
      (s.warning.level.toNat < s.cfg.stopLevel.toNat →
        exec (.resumeRun p) s = .next (({ s.setCtx { h with phase := .rest r } with
          outputs := { s.outputs with retrieve := false } }).answered p s.clock.time 0x7E .ok (.resumed r.state)))) ∧
    (∀ n : Nat, s.save ≠ none → exec (.setRunSettings p n) s = .next (s.refusedOn p 0x7F .busy)) ∧
    (∀ n : Nat, s.save = none → n = 0 ∨ 3 < n → exec (.setRunSettings p n) s = .next (s.refusedOn p 0x7F .badValue)) ∧
    exec (.getRunSettings p) s = .next (s.answered p s.clock.time 0x80 .ok (.runSettings s.cfg.stopLevel)) ∧
    (∀ k : UpStep, s.save = none → exec (.setRunSettings p k.toNat) s =
      .next (({ s with cfg := { s.cfg with stopLevel := k } }).answered p s.clock.time 0x7F .ok .empty)) ∧
    ∀ (ctx : Option RunContext) (work : Option Vertical) (state : RunState), s.run.ctx = ctx →
      ((ctx = none ∧ work = none ∧ state = .idle) ∨ (∃ c, ctx = some c ∧ (
        (c.phase = .opened ∧ work = none ∧ state = .opened) ∨ (c.phase = .finished ∧ work = none ∧ state = .finished) ∨
        (c.phase = .rest .ready ∧ work = none ∧ state = .ready) ∨
        (∃ v, c.phase = .rest (.sounding v) ∧ work = some v ∧ state = .sounding) ∨
        (∃ v, c.phase = .rest (.points v) ∧ work = some v ∧ state = .points) ∨
        (∃ v, c.phase = .rest (.review v) ∧ work = some v ∧ state = .review) ∨
        (∃ v f, c.phase = .exposing v f ∧ work = some v ∧ state = .exposing) ∨
        (∃ r, c.phase = .retrieving r ∧ work = r.work ∧ state = .retrieving)))) →
      exec (.getRun p) s = .next (s.answered p s.clock.time 0x70 .ok (.run
        ⟨state, ctx, work, work.map Vertical.complete, s.run.verticals.length,
          (s.run.verticals.getLast?).map (fun v => (v.index, v.station.mm)), s.run.counter, s.cfg.stopLevel⟩))

/-! ### Ports -/

/-- EXCHANGE_BEGIN fixes the outgoing frame: PENDING while a request of the port is in progress, else the response in the slot, else
NULL. EXCHANGE_END, given the bytes clocked in (log 31), has shifted out as many: the frame's, then 0x00 (kept in a field of the
model's own, log 37). It empties the slot when its response was shifted out whole, ignores the bytes of a PENDING exchange, and
otherwise examines them by the checks of R178 in order: each failure is answered by the port itself with the code it read, LONG for
surplus bytes, after a length above 56 too (log 30). A request without fields needs length 0 and SET_NOTICE_MASK its four mask bytes;
the lengths and layouts of other fields are free (log 3). A response is sent as status, of twenty codes, with its two marks, echo,
length, payload and check (R175, R176, R177, R178, R180, R181, R182, R191, R192). What occurs out of turn has no effect (logs 8, 28);
answers without fields: log 18. -/
def Obligations.Exchanges : Prop :=
  (crc [0x31, 0x32, 0x33, 0x34, 0x35, 0x36, 0x37, 0x38, 0x39] = 0x29B1#16 ∧ Frame.null.bytes = [0x00, 0x00, 0x00, 0xCC, 0x9C]) ∧
  (∀ e : Byte, ∃ high low : Byte, (Frame.pending e).bytes = [0x01, e, 0x00, high, low] ∧ high ++ low = crc [0x01, e, 0x00]) ∧
  (∀ (f : Frame) (n : Nat), (f.shifted n).length = n ∧ ∀ i, i < n → (f.shifted n)[i]? = some ((f.bytes[i]?).getD 0x00)) ∧
  (∀ (p : Port) (code : Byte) (i : Instr), fieldlessRequest p code = some i →
    ∃ r, requestOf i = some r ∧ r.port = p ∧ r.code = code) ∧
  (∀ r : Response, ∃ (status len high low : Byte) (payload : List Byte),
    (Frame.response r).bytes = [status, r.echo, len] ++ payload ++ [high, low] ∧
    high ++ low = crc ([status, r.echo, len] ++ payload) ∧ payload.length = len.toNat ∧ payload.length ≤ 56 ∧
    (r.body = .empty → payload = []) ∧ status.getLsbD 7 = r.replaced ∧ status.getLsbD 6 = r.long ∧
    status.extractLsb' 0 6 = (match r.status with
      | .ok => 0x10#6 | .okClamped => 0x11#6 | .badFrame => 0x20#6 | .shortFrame => 0x21#6 | .unknownRequest => 0x22#6
      | .badLength => 0x23#6 | .badValue => 0x24#6 | .busy => 0x25#6 | .notHolder => 0x30#6 | .heldByOther => 0x31#6
      | .wrongState => 0x32#6 | .stale => 0x33#6 | .nothingPending => 0x34#6 | .tooFew => 0x35#6 | .outOfOrder => 0x36#6
      | .full => 0x37#6 | .incomplete => 0x38#6 | .runOpen => 0x39#6 | .levelTooHigh => 0x3A#6 | .invalidTable => 0x3B#6)) ∧
  ∀ (p : Port) (s : State), s.powered = true →
    let q := s.port p
    (q.exchange = none → ∀ out : Frame,
      ((∃ e, q.inProgress = some e ∧ out = .pending e) ∨ (q.inProgress = none ∧ ∃ r, q.slot = some r ∧ out = .response r) ∨
        (q.inProgress = none ∧ q.slot = none ∧ out = .null)) →
      exec (.exchangeBegin p) s = .next (s.setPort p { q with exchange := some ⟨out, []⟩ })) ∧
    (q.exchange ≠ none → exec (.exchangeBegin p) s = .next s) ∧
    (q.exchange = none → ∀ bytes, exec (.exchangeEnd p bytes) s = .next s) ∧
    ∀ (x : Exchange) (bytes : List Byte), q.exchange = some x →
      let bs := x.shifter ++ bytes
      let run := exec (.exchangeEnd p bytes) s
      let out := fun slot : Option Response => (s.setPort p { q with
        exchange := none, slot := slot, shiftedOut := x.outgoing.shifted bs.length } : State)
      (∀ e, x.outgoing = .pending e → run = .next (out q.slot)) ∧
      ∀ slot : Option Response,
        (x.outgoing = .null ∧ slot = q.slot ∨ ∃ r, x.outgoing = .response r ∧
          slot = if (Frame.response r).bytes.length ≤ bs.length then none else q.slot) →
        let u := out slot
        let refused := fun (code : Byte) (st : Status) (long : Bool) =>
          run = .next (u.setPort p { u.port p with slot := some ⟨st, slot.isSome, long, code, .empty⟩ })
        (bs = [] → run = .next u) ∧
        (∀ code, bs = [code] → refused code .shortFrame false) ∧
        ∀ (code len : Byte) (rest : List Byte), bs = code :: len :: rest →
          let n := len.toNat
          let long := decide (n + 2 < rest.length)
          let c := code.toNat
          let known := (1 ≤ c ∧ c ≤ 4) ∨ (8 ≤ c ∧ c ≤ 9) ∨ (0x10 ≤ c ∧ c ≤ 0x14) ∨ (0x20 ≤ c ∧ c ≤ 0x28) ∨ (0x30 ≤ c ∧ c ≤ 0x37) ∨
            (0x40 ≤ c ∧ c ≤ 0x43) ∨ (0x48 ≤ c ∧ c ≤ 0x4C) ∨ (0x50 ≤ c ∧ c ≤ 0x53) ∨ (0x60 ≤ c ∧ c ≤ 0x66) ∨
            (0x70 ≤ c ∧ c ≤ 0x80) ∨ (0x88 ≤ c ∧ c ≤ 0x89)
          (56 < n → refused code .badLength long) ∧
          (n ≤ 56 → rest.length < n + 2 → refused code .shortFrame false) ∧
          (n ≤ 56 → ∀ (payload after : List Byte) (c1 c2 : Byte), rest = payload ++ c1 :: c2 :: after → payload.length = n →
            let valid := c1 ++ c2 = crc (code :: len :: payload)
            (¬ valid → refused code .badFrame long) ∧
            (valid → c = 0 → if n = 0 then run = .next u else refused code .badLength long) ∧
            (valid → c ≠ 0 → ¬ known → refused code .unknownRequest long) ∧
            (valid → ∀ (i : Instr) (r : Request), fieldlessRequest p code = some i → requestOf i = some r →
              (n ≠ 0 → refused code .badLength long) ∧
              (n = 0 → run = .next (u.takeRequest p code long (r.act long)))) ∧
            (valid → c = 3 →
              (n ≠ 4 → refused code .badLength long) ∧
              ∀ (b3 b2 b1 b0 : Byte) (r : Request), payload = [b3, b2, b1, b0] →
                requestOf (.setNoticeMask p (b3 ++ b2 ++ b1 ++ b0)) = some r → run = .next (u.takeRequest p code long (r.act long))) ∧
            (valid → known → c ≠ 3 → fieldlessRequest p code = none →
              if Config.lengthAllowed code n then ∃ (i : Instr) (r : Request), requestOf i = some r ∧ r.port = p ∧ r.code = code ∧
                run = .next (u.takeRequest p code long (r.act long))
              else refused code .badLength long))

/-- A NULL request asks nothing: it is taken by no block, places nothing and does not change the last-request time. An exchange that
carries it, with or without surplus bytes, only shifts out the outgoing frame and so empties the slot once the response in it has been
shifted out whole (R179; the bytes the master received are left open here). -/
def Obligations.NullRequest : Prop :=
  ∀ (p : Port) (s : State),
    exec (.null p) s = .next s ∧
    ∀ (x : Exchange) (bytes surplus : List Byte), s.powered = true → (s.port p).exchange = some x →
      x.shifter ++ bytes = [0x00, 0x00, 0x1D, 0x0F] ++ surplus →
      (x.outgoing = .null → ∃ out : List Byte,
        exec (.exchangeEnd p bytes) s = .next (s.setPort p { s.port p with exchange := none, shiftedOut := out })) ∧
      (∀ r : Response, x.outgoing = .response r → (Frame.response r).bytes.length ≤ 4 + surplus.length → ∃ out : List Byte,
        exec (.exchangeEnd p bytes) s = .next (s.setPort p { s.port p with exchange := none, slot := none, shiftedOut := out })) ∧
      (∀ r : Response, x.outgoing = .response r → 4 + surplus.length < (Frame.response r).bytes.length →
        ∃ out : List Byte, exec (.exchangeEnd p bytes) s = .next (s.setPort p { s.port p with exchange := none, shiftedOut := out }))

/-- READ_NOTICE takes the oldest record out of the queue and answers it with the number left, or no record; CLEAR_PORT empties the
slot and the queue, leaves a run of that port UNHELD and releases its edit claim; SET_NOTICE_MASK sets the port's mask, refusing bits
above the eighteen kinds, and the factory mask admits every kind. ATTN is asserted while the slot holds a response or the queue a
record, so after every answer. A notice is sent as kind, flags, station time and three parameters, an absent one as 0 with its flag
clear, and GET_PORT_STATUS sends each notice mask as four bytes, among parts of free layout (log 4) (R60, R138, R184, R185, R186,
R188, R192; the idle timer of a released claim is held as 0, log 16; answers without fields: log 18). -/
def Obligations.PortRequests : Prop :=
  let word := fun w : Word32 => ([w.extractLsb' 24 8, w.extractLsb' 16 8, w.extractLsb' 8 8, w.extractLsb' 0 8] : List Byte)
  (∀ (p : Port) (s : State),
    (s.attn p = true ↔ (s.port p).slot ≠ none ∨ (s.port p).queue ≠ []) ∧
    ∀ (time : Nat) (code : Byte) (st : Status) (b : Body), (s.answered p time code st b).attn p = true) ∧
  (∀ (left : Nat) (n : Notice), ∃ (flags : Byte) (time a b c : Word32),
    (Body.notice left (some n)).payload = [BitVec.ofNat 8 left, BitVec.ofNat 8 n.kind.code, flags] ++ word time ++
      word a ++ word b ++ word c ∧
    time.toNat = n.time % 4294967296 ∧ flags.getLsbD 0 = n.lostAfter ∧ flags.getLsbD 1 = n.p1.isSome ∧
    flags.getLsbD 2 = n.p2.isSome ∧ flags.getLsbD 3 = n.p3.isSome ∧
    (n.p1 = none → a = 0) ∧ (n.p2 = none → b = 0) ∧ (n.p3 = none → c = 0) ∧
    (∀ k : Int, (n.p1 = some (.num k) → a = BitVec.ofInt 32 k) ∧ (n.p2 = some (.num k) → b = BitVec.ofInt 32 k) ∧
      (n.p3 = some (.num k) → c = BitVec.ofInt 32 k))) ∧
  (∀ (self : Port) (ports : PerPort PortReport), ∃ p0 p1 p2 p3 : List Byte, (Body.portStatus self ports).payload =
    p0 ++ word (ports.a.mask.setWidth 32) ++ p1 ++ word (ports.b.mask.setWidth 32) ++ p2 ++ word (ports.c.mask.setWidth 32) ++ p3) ∧
  (∀ (p : Port) (k : NoticeKind), admits (factorySettings.masks.get p) k = true) ∧
  ∀ (p : Port) (s : State), s.takes p →
    let q := s.port p
    (q.queue = [] → exec (.readNotice p) s = .next (s.answered p s.clock.time 0x01 .ok (.notice 0 none))) ∧
    (∀ (n : Notice) (rest : List Notice), q.queue = n :: rest → exec (.readNotice p) s =
      .next ((s.setPort p { q with queue := rest }).answered p s.clock.time 0x01 .ok (.notice rest.length (some n)))) ∧
    (exec (.clearPort p) s = .next (({ s with
      ports := s.ports.set p { q with slot := none, queue := [] }
      run := { s.run with ctx := s.run.ctx.map (fun c : RunContext =>
        if c.holder = some p then { c with holder := none } else c) }
      rating := if s.rating.claim = some p then { s.rating with claim := none, idle := 0 } else s.rating }).answered p s.clock.time
      0x02 .ok .empty)) ∧
    (∀ mask : Word32,
      (s.save ≠ none → exec (.setNoticeMask p mask) s = .next (s.refusedOn p 0x03 .busy)) ∧
      (s.save = none → mask.toNat < 262144 → exec (.setNoticeMask p mask) s = .next (({ s with cfg := { s.cfg with
        masks := s.cfg.masks.set p (BitVec.ofNat 18 mask.toNat) } }).answered p s.clock.time 0x03 .ok .empty)) ∧
      (s.save = none → 262144 ≤ mask.toNat → exec (.setNoticeMask p mask) s = .next (s.refusedOn p 0x03 .badValue)))

/-! ### Store, power and restart -/

/-- SAVE_SETTINGS is BUSY during a save; otherwise it leaves its port with a request in progress and no response, the store INVALID
and holding the working settings, until SAVE_COMPLETION makes the store VALID, places the response on the saving port with the
generation and the bank's size of that time, and posts SETTINGS_SAVED (R180, R181, R193, R194). That the INVALID copy holds the
settings from the taking on (log 12) and that a completion without a save has no effect (log 8) are the model's choices; answers
without fields: log 18. -/
def Obligations.SaveCycle : Prop :=
  (∀ (p : Port) (s : State), s.takes p →
    (s.save ≠ none → exec (.saveSettings p) s = .next (s.refusedOn p 0x08 .busy)) ∧
    (s.save = none → exec (.saveSettings p) s = .next { s with
      ports := s.ports.set p { s.port p with lastRequest := some s.clock.time, inProgress := some 0x08 }
      save := some ⟨p, s.rating.generation, s.cfg.bank.length, false⟩
      store := ⟨false, s.cfg⟩ })) ∧
  (∀ s : State, s.powered = true →
    (s.save = none → exec .saveCompletion s = .next s) ∧
    (∀ x : Save, s.save = some x → exec .saveCompletion s = .next (({ s with
      save := none
      store := ⟨true, s.store.settings⟩
      ports := s.ports.set x.port { s.port x.port with
        inProgress := none
        slot := some ⟨.ok, (s.port x.port).slot.isSome, x.long, 0x08, .saved x.generation x.points⟩ } }).postAll
      ⟨.settingsSaved, s.clock.time, some (.port x.port), some (.num x.generation), none, false⟩)))

/-- MAIN_POWER_LOSS stops everything but the clock and ends a save without its completion. POWER_ON loads the stored or the default
settings, keeps or clears retained memory, starts every block, hands the restored level's patterns and posts SETTINGS_DEFAULTED,
RETAINED_LOST and RESTARTED in that order (R23, R44, R57, R61, R82, R111, R132, R190, R193, R195, R196, R197). The model's choices:
the rest standing after a power loss (logs 9, 26), the backup operand and a power-on under power (log 10), the BREAK hold clear (log
14), the phase timer of an engine in IDLE held as 0 (log 16), the bytes last shifted out gone (log 37), and a close or an expiry due
and not yet taken dropped (log 40). Each group's factory values stand in the statement of the requests that set it. -/
def Obligations.PowerLossAndPowerOn : Prop :=
  (∀ s : State, s.powered = true → exec .mainPowerLoss s = .next { s with
    powered := false, save := none
    ports := ⟨{ s.ports.a with inProgress := none }, { s.ports.b with inProgress := none }, { s.ports.c with inProgress := none }⟩ }) ∧
  ∀ (held : Bool) (f t d : LevelPair) (s : State), ∃ u, exec (.powerOn held f t d) s = .next u ∧
    let kept := held && s.retainedMark
    let level : Level := if kept then s.warning.level else .normal
    let clock : Clock := if kept then s.clock else ⟨0, true, none⟩
    (u.powered = true ∧ u.store = s.store ∧ u.save = none ∧ u.cfg = (if s.store.valid then s.store.settings else factorySettings)) ∧
    (u.clock = clock ∧ u.log.entries = (if kept then s.log.entries else []) ∧ u.log.nextSeq = (if kept then s.log.nextSeq else 1) ∧
      u.log.cursors = (if kept then s.log.cursors else ⟨⟨1, 0⟩, ⟨1, 0⟩, ⟨1, 0⟩⟩) ∧
      u.run.results = (if kept then s.run.results else []) ∧ u.run.counter = (if kept then s.run.counter else 0) ∧
      u.rating.generation = (if kept then s.rating.generation else 0)) ∧
    (u.sensing = { float := ⟨0, f, some .powerOn⟩, receiver := ⟨.collecting, [], false⟩, reading := none, readingAge := 0
                   garbled := false, lastAccepted := none, floatFilter := ⟨0, false⟩, pressFilter := ⟨0, false⟩
                   sensorState := .holding, heldSeconds := 0, disagree := false, disagreeCount := 0, agreeCount := 0
                   record := ⟨⟨none, .held, ⟨false, false, false⟩⟩, clock.time⟩ }) ∧
    (u.log = ⟨⟨0, 0, 0, 0, ⟨false, false, false⟩, none, none⟩, false, [], none, none,
      ⟨0, 0, none, false, false, false, false, false, false, false, false, false, false, 0⟩, u.cfg.log.defaultInterval, false,
      u.log.entries, u.log.nextSeq, u.log.cursors⟩) ∧
    (u.rating.alternate = [] ∧ u.rating.claim = none ∧ u.run.ctx = none ∧ u.run.verticals = [] ∧ u.run.listTotal = none) ∧
    (u.warning = ⟨level, ⟨clock.time, .restored⟩, 0, 0, .normal, 0, 0, .normal, 0, 0, false, none, none⟩) ∧
    (let idle : Engine := ⟨0, .idle, 0, 0, false⟩
     u.outputs = ⟨⟨idle.hand u.cfg.patterns (u.cfg.warning.siren.get level), none⟩,
       ⟨idle.hand u.cfg.patterns (u.cfg.warning.beacon.get level), none⟩, false⟩) ∧
    (u.cableway = { traverse := ⟨0, t, some .powerOn⟩, ipOffset := 0, sounding := ⟨0, d, some .powerOn⟩, sMark := 0
                    now := u.cableway.now, lastClosure := none, spin := 0, exposure := none, lastPoint := none }) ∧
    ∀ q : Port, u.port q = ⟨none, none, none,
      ((if s.store.valid then [] else [(⟨.settingsDefaulted, clock.time, none, none, none, false⟩ : Notice)]) ++
       (if kept then [] else [(⟨.retainedLost, clock.time, none, none, none, false⟩ : Notice)]) ++
       [(⟨.restarted, clock.time, some (.level level), some .powerOn, none, false⟩ : Notice)]).filter
        (fun n => admits (u.cfg.masks.get q) n.kind), none, []⟩

/-- RESTART: the settings, the store, retained memory, the counters and the level stand; runs, claims, exposures, tests, the filters
and the rings start anew; the level's patterns are handed; a save in progress ends without its completion; nothing is answered and
every port is posted RESTARTED (R23, R44, R61, R83, R99, R111, R132, R160, R190, R198). That the BREAK hold is clear (log 14), that
the phase timer of an engine in IDLE is held as 0 (log 16), that the last-request times stand, the requesting port's at this request
(log 29), that the bytes last shifted out stand (log 37), and that a close or an expiry due and not yet taken is dropped (log 40) are
the model's choices. -/
def Obligations.Restart : Prop :=
  ∀ (p : Port) (s : State), s.takes p → ∃ u, exec (.restart p) s = .next u ∧
    (u.powered = true ∧ u.cfg = s.cfg ∧ u.store = s.store ∧ u.save = none ∧ u.clock = s.clock) ∧
    (u.sensing = { float := s.sensing.float, receiver := ⟨.collecting, [], false⟩, reading := none, readingAge := 0
                   garbled := false, lastAccepted := none, floatFilter := ⟨0, false⟩, pressFilter := ⟨0, false⟩
                   sensorState := .holding, heldSeconds := 0, disagree := false, disagreeCount := 0, agreeCount := 0
                   record := ⟨⟨none, .held, ⟨false, false, false⟩⟩, s.clock.time⟩ }) ∧
    (u.log = ⟨⟨0, 0, 0, 0, ⟨false, false, false⟩, none, none⟩, false, [], none, none,
      ⟨0, 0, none, false, false, false, false, false, false, false, false, false, false, 0⟩, s.cfg.log.defaultInterval, false,
      s.log.entries, s.log.nextSeq, s.log.cursors⟩) ∧
    (u.rating.generation = s.rating.generation ∧ u.rating.alternate = [] ∧ u.rating.claim = none) ∧
    (u.run = ⟨none, [], s.run.counter, none, s.run.results⟩) ∧
    (u.warning = ⟨s.warning.level, ⟨s.clock.time, .restored⟩, 0, 0, .normal, 0, 0, .normal, 0, 0, false, none, none⟩) ∧
    (let idle : Engine := ⟨0, .idle, 0, 0, false⟩
     u.outputs = ⟨⟨idle.hand s.cfg.patterns (s.cfg.warning.siren.get s.warning.level), none⟩,
       ⟨idle.hand s.cfg.patterns (s.cfg.warning.beacon.get s.warning.level), none⟩, false⟩) ∧
    (u.cableway = { s.cableway with exposure := none, lastPoint := none }) ∧
    ∀ q : Port, u.port q = ⟨none, none, none,
      if admits (s.cfg.masks.get q) .restarted then
        [⟨.restarted, s.clock.time, some (.level s.warning.level), some .restart, some (.port p), false⟩] else [],
      if q = p then some s.clock.time else (s.port q).lastRequest, (s.port q).shiftedOut⟩

/-! ### Reads -/

/-- The reads without fields of the settings, the ports and the blocks give what stands and change nothing but the port's answer (R20,
R22, R25, R41, R42, R43, R59, R79, R81, R98, R110, R187). By log 6, the model's choice, GET_LOG_STATUS gives the present time as the
close time while a close is due and not yet taken, and a timer that has run out is given as 1 s until its expiry is taken. -/
def Obligations.StatusReads : Prop :=
  ∀ (p : Port) (s : State), s.takes p →
    let gives := fun (i : Instr) (code : Byte) (b : Body) => exec i s = .next (s.answered p s.clock.time code .ok b)
    let c := s.cfg
    let x := s.sensing
    let l := s.log
    let w := s.warning
    gives (.getSensing p) 0x14 (.sensing c.sensing) ∧ gives (.getClock p) 0x20 (.clock s.clock) ∧
    gives (.getLogSettings p) 0x28 (.logSettings c.log) ∧ gives (.getAckSettings p) 0x4C (.ackSettings c.ack) ∧
    gives (.getWarningSettings p) 0x43
      (.warningSettings c.warning (roundDiv (c.warning.qHi * (1000 - c.warning.flowHyst)) 1000)) ∧
    (let fitted := clampMarked (-9999) 99999 (c.sensing.datumF + roundDiv (x.float.count * c.sensing.pitchNm) 1000000)
     let press := x.reading.map (fun r => clampMarked (-9999) 99999 (c.sensing.datumP + roundDiv (r * c.sensing.gain) 10000))
     gives (.getStage p) 0x10 (.stage ⟨x.record, x.sensorState, x.heldSeconds, fitted, x.float.count, x.float.fault, press, x.reading,
       x.readingAge, x.garbled, x.lastAccepted, x.floatFilter, x.pressFilter, x.disagree, x.disagreeCount, x.agreeCount⟩)) ∧
    (let i := l.interval.minutes * 60
     let boundary := (s.clock.time / i + 1) * i
     let closes := if l.closeDue ∧ s.clock.time % i = 0 then s.clock.time else if boundary < 4294967296 then boundary else 0
     let cur := l.cursors.get p
     let e := l.entry
     gives (.getLogStatus p) 0x25 (.logStatus ⟨(l.entries.head?.map LogEntry.seq).getD l.nextSeq, l.nextSeq - 1, l.nextSeq,
       l.entries.length, cur.seq, l.nextSeq - cur.seq, cur.gap, l.interval, c.log.defaultInterval, l.entry.span, l.entry.peak,
       ⟨e.disagree, e.heldPart || (e.sawHeld && (e.sawFloat || e.sawPress || e.sawMixed)), e.reseated, e.clamped, false, e.unset,
         e.runFlag⟩, closes, l.timeStep⟩)) ∧
    gives (.getTrend p) 0x26 (.trend ⟨c.log.w, l.ring.length, l.rate, l.ring.getLast?,
      if c.log.w < l.ring.length then (l.ring[l.ring.length - 1 - c.log.w]?).bind MinuteMean.value else none, l.lastMean,
      l.acc.accFloat, l.acc.accPress, l.acc.held⟩) ∧
    gives (.getRatingStatus p) 0x37 (.ratingStatus ⟨s.rating.generation, c.bank.length, c.bank.head?, c.bank.getLast?,
      s.rating.alternate.length, bankFailure s.rating.alternate, s.rating.claim, if s.rating.claim = none then none
      else some (max 1 s.rating.idle)⟩) ∧
    (let toward := fun (k : Option UpStep) (f : UpStep → CountReport) => (k.map f : Option CountReport)
     gives (.getWarning p) 0x40 (.warning ⟨w.level, w.lastChange,
       toward w.level.stepUp (fun k => CountReport.mk w.up (c.warning.u.get k) (c.warning.pu.get k)),
       toward w.level.stepDown (fun k => CountReport.mk w.down (c.warning.u.get k - c.warning.h.get k) (c.warning.pd.get k)),
       w.rateState, w.rateHigh, w.rateLow, w.flowState, w.flowHigh, w.flowLow,
       roundDiv (c.warning.qHi * (1000 - c.warning.flowHyst)) 1000, w.lostAtClose,
       w.ack.map (fun r : AckRecord => { r with timer := max 1 r.timer }), w.evaluation⟩)) ∧
    (let output := fun o : OutputState => (⟨o.engine.pattern, o.engine.phase,
       if o.engine.phase = .idle then none else some o.engine.timer, o.engine.count, o.engine.line, o.test⟩ : OutputReport)
     gives (.getOutputs p) 0x50 (.outputs (output s.outputs.siren) (output s.outputs.beacon) s.outputs.retrieve)) ∧
    (let port := fun q : Port => (⟨(s.port q).slot.isSome, (s.port q).inProgress, (s.port q).queue.length,
       (s.port q).queue.any Notice.lostAfter, c.masks.get q, if q = p then some s.clock.time else (s.port q).lastRequest,
       decide (s.run.ctx.bind RunContext.holder = some q), decide (s.rating.claim = some q)⟩ : PortReport)
     gives (.getPortStatus p) 0x04 (.portStatus p ⟨port .a, port .b, port .c⟩))

/-- RATING_QUERY rates a clamped stage with either bank, an alternate that is not valid being INVALID_TABLE; READ_RATING gives up to
six points from an index of 0 to 31; READ_RESULT gives a result of the ring by its age, newest first; READ_VERTICAL gives a vertical
of the list or one of its points, of index 0 to 3. Each refuses what is out of its set with BAD_VALUE and changes nothing else (R49,
R58, R172, R173). Answers without fields: log 18. -/
def Obligations.ReadsWithFields : Prop :=
  ∀ (p : Port) (s : State), s.takes p →
    let gives := fun (i : Instr) (code : Byte) (st : Status) (b : Body) => exec i s = .next (s.answered p s.clock.time code st b)
    (∀ h : Int,
      let st : Status := if isOutside (-9999) 99999 h then .okClamped else .ok
      gives (.ratingQuery p .outside h) 0x30 .badValue .empty ∧
      gives (.ratingQuery p (.named .principal) h) 0x30 st
        (.rated (ratedDischarge s.cfg.bank (clamp (-9999) 99999 h)) s.rating.generation) ∧
      (BankValid s.rating.alternate → gives (.ratingQuery p (.named .alternate) h) 0x30 st
        (.rated (ratedDischarge s.rating.alternate (clamp (-9999) 99999 h)) s.rating.generation)) ∧
      (¬ BankValid s.rating.alternate → gives (.ratingQuery p (.named .alternate) h) 0x30 .invalidTable .empty)) ∧
    (∀ first : Nat,
      gives (.readRating p .outside first) 0x36 .badValue .empty ∧
      (∀ b : Bank, 32 ≤ first → gives (.readRating p (.named b) first) 0x36 .badValue .empty) ∧
      (∀ b : Bank, first < 32 → ∃ pts : List (Nat × RatingPoint),
        (pts.length = min 6 ((s.bank b).length - first) ∧
          ∀ i, i < pts.length → pts[i]? = ((s.bank b)[first + i]?).map (fun x => (first + i, x))) ∧
        gives (.readRating p (.named b) first) 0x36 .ok (.ratingPoints (s.bank b).length s.rating.generation pts))) ∧
    (∀ age : Nat,
      (7 < age ∨ s.run.results.length ≤ age → gives (.readResult p age) 0x88 .badValue .empty) ∧
      (∀ (front after : List RunResult) (r : RunResult), s.run.results = front ++ r :: after → after.length = age → age ≤ 7 →
        gives (.readResult p age) 0x88 .ok (.resultRead r s.run.results.length))) ∧
    (∀ index : Nat,
      (s.run.verticals.length ≤ index → ∀ point, gives (.readVertical p index point) 0x89 .badValue .empty) ∧
      (∀ v : Vertical, s.run.verticals[index]? = some v →
        (∀ share : Option Int,
          (share = none ∧ (s.run.ctx ≠ none ∨ s.run.listTotal = none ∨ s.run.listTotal = some 0 ∨ v.partialQ = none) ∨
            s.run.ctx = none ∧ ∃ t q, s.run.listTotal = some t ∧ t ≠ 0 ∧ v.partialQ = some q ∧
              share = some (Int.tdiv (q * 1000) t)) →
          gives (.readVertical p index none) 0x89 .ok
            (.verticalRead { v with points := [] } v.points.length v.partialQ.isSome share)) ∧
        (∀ j : Nat, v.points.length ≤ j ∨ 3 < j → gives (.readVertical p index (some j)) 0x89 .badValue .empty) ∧
        (∀ (pre later : List Point) (q : Point), v.points = pre ++ q :: later → pre.length ≤ 3 →
          ∃ used : Bool, gives (.readVertical p index (some pre.length)) 0x89 .ok (.pointRead q used) ∧
            (used = true ↔ q.result.marks.discarded = false ∧ q.excluded = false ∧
              ∀ x ∈ later, x.fraction = q.fraction → x.result.marks.discarded = true ∨ x.excluded = true))))
end

