-- ==== Sys2Proof/Laws/State.lean ====
section
/-! SUPPORT. One lemma for each field and each update of the state that leaves that field alone, so that no later proof unfolds a
record update. -/

namespace Sys2Proof

theorem PerPort.get_set_same {α : Type} (t : PerPort α) (p : Port) (v : α) : (t.set p v).get p = v := by cases p <;> rfl

theorem PerPort.get_set_other {α : Type} (t : PerPort α) {p q : Port} (v : α) (h : q ≠ p) : (t.set p v).get q = t.get q := by
  cases p <;> cases q <;> first | rfl | exact absurd rfl h

theorem PerPort.get_set {α : Type} (t : PerPort α) (p q : Port) (v : α) :
    (t.set p v).get q = if q = p then v else t.get q := by
  cases p <;> cases q <;> rfl

@[simp] theorem PerPort.set_set {α : Type} (t : PerPort α) (p : Port) (u v : α) : (t.set p u).set p v = t.set p v := by
  cases p <;> rfl

@[simp] theorem PerPort.set_get {α : Type} (t : PerPort α) (p : Port) : t.set p (t.get p) = t := by cases p <;> rfl

@[simp] theorem PerPort.get_map {α β : Type} (t : PerPort α) (f : α → β) (p : Port) : (t.map f).get p = f (t.get p) := by
  cases p <;> rfl

theorem PerLevel.get_set {α : Type} (t : PerLevel α) (l m : Machine.Level) (v : α) :
    (t.set l v).get m = if m = l then v else t.get m := by
  cases l <;> cases m <;> rfl

end Sys2Proof

namespace Sys2Proof.Machine

open Sys2Proof

theorem PerClass.get_set {α : Type} (t : PerClass α) (c d : TriggerClass) (v : α) :
    (t.set c v).get d = if d = c then v else t.get d := by
  cases c <;> cases d <;> rfl

@[simp] theorem State.port_setPort (s : State) (p q : Port) (x : PortState) :
    (s.setPort p x).port q = if q = p then x else s.port q := PerPort.get_set s.ports p q x

@[simp] theorem State.port_mk (s : State) (p : Port) : s.ports.get p = s.port p := rfl

variable (s : State)

/-! `State.setPort` -/

@[simp] theorem State.setPort_powered (p : Port) (q : PortState) : (s.setPort p q).powered = s.powered := rfl
@[simp] theorem State.setPort_cfg (p : Port) (q : PortState) : (s.setPort p q).cfg = s.cfg := rfl
@[simp] theorem State.setPort_store (p : Port) (q : PortState) : (s.setPort p q).store = s.store := rfl
@[simp] theorem State.setPort_save (p : Port) (q : PortState) : (s.setPort p q).save = s.save := rfl
@[simp] theorem State.setPort_retainedMark (p : Port) (q : PortState) : (s.setPort p q).retainedMark = s.retainedMark := rfl
@[simp] theorem State.setPort_clock (p : Port) (q : PortState) : (s.setPort p q).clock = s.clock := rfl
@[simp] theorem State.setPort_sensing (p : Port) (q : PortState) : (s.setPort p q).sensing = s.sensing := rfl
@[simp] theorem State.setPort_log (p : Port) (q : PortState) : (s.setPort p q).log = s.log := rfl
@[simp] theorem State.setPort_rating (p : Port) (q : PortState) : (s.setPort p q).rating = s.rating := rfl
@[simp] theorem State.setPort_warning (p : Port) (q : PortState) : (s.setPort p q).warning = s.warning := rfl
@[simp] theorem State.setPort_outputs (p : Port) (q : PortState) : (s.setPort p q).outputs = s.outputs := rfl
@[simp] theorem State.setPort_cableway (p : Port) (q : PortState) : (s.setPort p q).cableway = s.cableway := rfl
@[simp] theorem State.setPort_run (p : Port) (q : PortState) : (s.setPort p q).run = s.run := rfl
@[simp] theorem State.setPort_pending (p : Port) (q : PortState) : (s.setPort p q).pending = s.pending := rfl

/-! `State.stamp` -/

@[simp] theorem State.stamp_powered (p : Port) : (s.stamp p).powered = s.powered := rfl
@[simp] theorem State.stamp_cfg (p : Port) : (s.stamp p).cfg = s.cfg := rfl
@[simp] theorem State.stamp_store (p : Port) : (s.stamp p).store = s.store := rfl
@[simp] theorem State.stamp_save (p : Port) : (s.stamp p).save = s.save := rfl
@[simp] theorem State.stamp_retainedMark (p : Port) : (s.stamp p).retainedMark = s.retainedMark := rfl
@[simp] theorem State.stamp_clock (p : Port) : (s.stamp p).clock = s.clock := rfl
@[simp] theorem State.stamp_sensing (p : Port) : (s.stamp p).sensing = s.sensing := rfl
@[simp] theorem State.stamp_log (p : Port) : (s.stamp p).log = s.log := rfl
@[simp] theorem State.stamp_rating (p : Port) : (s.stamp p).rating = s.rating := rfl
@[simp] theorem State.stamp_warning (p : Port) : (s.stamp p).warning = s.warning := rfl
@[simp] theorem State.stamp_outputs (p : Port) : (s.stamp p).outputs = s.outputs := rfl
@[simp] theorem State.stamp_cableway (p : Port) : (s.stamp p).cableway = s.cableway := rfl
@[simp] theorem State.stamp_run (p : Port) : (s.stamp p).run = s.run := rfl
@[simp] theorem State.stamp_pending (p : Port) : (s.stamp p).pending = s.pending := rfl

/-! `State.place` -/

@[simp] theorem State.place_powered (p : Port) (r : Response) : (s.place p r).powered = s.powered := rfl
@[simp] theorem State.place_cfg (p : Port) (r : Response) : (s.place p r).cfg = s.cfg := rfl
@[simp] theorem State.place_store (p : Port) (r : Response) : (s.place p r).store = s.store := rfl
@[simp] theorem State.place_save (p : Port) (r : Response) : (s.place p r).save = s.save := rfl
@[simp] theorem State.place_retainedMark (p : Port) (r : Response) : (s.place p r).retainedMark = s.retainedMark := rfl
@[simp] theorem State.place_clock (p : Port) (r : Response) : (s.place p r).clock = s.clock := rfl
@[simp] theorem State.place_sensing (p : Port) (r : Response) : (s.place p r).sensing = s.sensing := rfl
@[simp] theorem State.place_log (p : Port) (r : Response) : (s.place p r).log = s.log := rfl
@[simp] theorem State.place_rating (p : Port) (r : Response) : (s.place p r).rating = s.rating := rfl
@[simp] theorem State.place_warning (p : Port) (r : Response) : (s.place p r).warning = s.warning := rfl
@[simp] theorem State.place_outputs (p : Port) (r : Response) : (s.place p r).outputs = s.outputs := rfl
@[simp] theorem State.place_cableway (p : Port) (r : Response) : (s.place p r).cableway = s.cableway := rfl
@[simp] theorem State.place_run (p : Port) (r : Response) : (s.place p r).run = s.run := rfl
@[simp] theorem State.place_pending (p : Port) (r : Response) : (s.place p r).pending = s.pending := rfl

/-! `State.answered` -/

@[simp] theorem State.answered_powered (p : Port) (time : Nat) (code : Byte) (st : Status) (b : Body) : (s.answered p time code st b).powered = s.powered :=
  rfl
@[simp] theorem State.answered_cfg (p : Port) (time : Nat) (code : Byte) (st : Status) (b : Body) : (s.answered p time code st b).cfg = s.cfg :=
  rfl
@[simp] theorem State.answered_store (p : Port) (time : Nat) (code : Byte) (st : Status) (b : Body) : (s.answered p time code st b).store = s.store :=
  rfl
@[simp] theorem State.answered_save (p : Port) (time : Nat) (code : Byte) (st : Status) (b : Body) : (s.answered p time code st b).save = s.save :=
  rfl
@[simp] theorem State.answered_retainedMark (p : Port) (time : Nat) (code : Byte) (st : Status) (b : Body) : (s.answered p time code st b).retainedMark = s.retainedMark :=
  rfl
@[simp] theorem State.answered_clock (p : Port) (time : Nat) (code : Byte) (st : Status) (b : Body) : (s.answered p time code st b).clock = s.clock :=
  rfl
@[simp] theorem State.answered_sensing (p : Port) (time : Nat) (code : Byte) (st : Status) (b : Body) : (s.answered p time code st b).sensing = s.sensing :=
  rfl
@[simp] theorem State.answered_log (p : Port) (time : Nat) (code : Byte) (st : Status) (b : Body) : (s.answered p time code st b).log = s.log :=
  rfl
@[simp] theorem State.answered_rating (p : Port) (time : Nat) (code : Byte) (st : Status) (b : Body) : (s.answered p time code st b).rating = s.rating :=
  rfl
@[simp] theorem State.answered_warning (p : Port) (time : Nat) (code : Byte) (st : Status) (b : Body) : (s.answered p time code st b).warning = s.warning :=
  rfl
@[simp] theorem State.answered_outputs (p : Port) (time : Nat) (code : Byte) (st : Status) (b : Body) : (s.answered p time code st b).outputs = s.outputs :=
  rfl
@[simp] theorem State.answered_cableway (p : Port) (time : Nat) (code : Byte) (st : Status) (b : Body) : (s.answered p time code st b).cableway = s.cableway :=
  rfl
@[simp] theorem State.answered_run (p : Port) (time : Nat) (code : Byte) (st : Status) (b : Body) : (s.answered p time code st b).run = s.run :=
  rfl
@[simp] theorem State.answered_pending (p : Port) (time : Nat) (code : Byte) (st : Status) (b : Body) : (s.answered p time code st b).pending = s.pending :=
  rfl

/-! `State.postTo` -/

@[simp] theorem State.postTo_powered (p : Port) (n : Notice) : (s.postTo p n).powered = s.powered :=
  by unfold State.postTo; split <;> rfl
@[simp] theorem State.postTo_cfg (p : Port) (n : Notice) : (s.postTo p n).cfg = s.cfg :=
  by unfold State.postTo; split <;> rfl
@[simp] theorem State.postTo_store (p : Port) (n : Notice) : (s.postTo p n).store = s.store :=
  by unfold State.postTo; split <;> rfl
@[simp] theorem State.postTo_save (p : Port) (n : Notice) : (s.postTo p n).save = s.save :=
  by unfold State.postTo; split <;> rfl
@[simp] theorem State.postTo_retainedMark (p : Port) (n : Notice) : (s.postTo p n).retainedMark = s.retainedMark :=
  by unfold State.postTo; split <;> rfl
@[simp] theorem State.postTo_clock (p : Port) (n : Notice) : (s.postTo p n).clock = s.clock :=
  by unfold State.postTo; split <;> rfl
@[simp] theorem State.postTo_sensing (p : Port) (n : Notice) : (s.postTo p n).sensing = s.sensing :=
  by unfold State.postTo; split <;> rfl
@[simp] theorem State.postTo_log (p : Port) (n : Notice) : (s.postTo p n).log = s.log :=
  by unfold State.postTo; split <;> rfl
@[simp] theorem State.postTo_rating (p : Port) (n : Notice) : (s.postTo p n).rating = s.rating :=
  by unfold State.postTo; split <;> rfl
@[simp] theorem State.postTo_warning (p : Port) (n : Notice) : (s.postTo p n).warning = s.warning :=
  by unfold State.postTo; split <;> rfl
@[simp] theorem State.postTo_outputs (p : Port) (n : Notice) : (s.postTo p n).outputs = s.outputs :=
  by unfold State.postTo; split <;> rfl
@[simp] theorem State.postTo_cableway (p : Port) (n : Notice) : (s.postTo p n).cableway = s.cableway :=
  by unfold State.postTo; split <;> rfl
@[simp] theorem State.postTo_run (p : Port) (n : Notice) : (s.postTo p n).run = s.run :=
  by unfold State.postTo; split <;> rfl
@[simp] theorem State.postTo_pending (p : Port) (n : Notice) : (s.postTo p n).pending = s.pending :=
  by unfold State.postTo; split <;> rfl

/-! `State.postAll` -/

@[simp] theorem State.postAll_powered (n : Notice) : (s.postAll n).powered = s.powered := by simp [State.postAll]
@[simp] theorem State.postAll_cfg (n : Notice) : (s.postAll n).cfg = s.cfg := by simp [State.postAll]
@[simp] theorem State.postAll_store (n : Notice) : (s.postAll n).store = s.store := by simp [State.postAll]
@[simp] theorem State.postAll_save (n : Notice) : (s.postAll n).save = s.save := by simp [State.postAll]
@[simp] theorem State.postAll_retainedMark (n : Notice) : (s.postAll n).retainedMark = s.retainedMark :=
  by simp [State.postAll]
@[simp] theorem State.postAll_clock (n : Notice) : (s.postAll n).clock = s.clock := by simp [State.postAll]
@[simp] theorem State.postAll_sensing (n : Notice) : (s.postAll n).sensing = s.sensing := by simp [State.postAll]
@[simp] theorem State.postAll_log (n : Notice) : (s.postAll n).log = s.log := by simp [State.postAll]
@[simp] theorem State.postAll_rating (n : Notice) : (s.postAll n).rating = s.rating := by simp [State.postAll]
@[simp] theorem State.postAll_warning (n : Notice) : (s.postAll n).warning = s.warning := by simp [State.postAll]
@[simp] theorem State.postAll_outputs (n : Notice) : (s.postAll n).outputs = s.outputs := by simp [State.postAll]
@[simp] theorem State.postAll_cableway (n : Notice) : (s.postAll n).cableway = s.cableway := by simp [State.postAll]
@[simp] theorem State.postAll_run (n : Notice) : (s.postAll n).run = s.run := by simp [State.postAll]
@[simp] theorem State.postAll_pending (n : Notice) : (s.postAll n).pending = s.pending := by simp [State.postAll]

/-! `State.setWarning` -/

@[simp] theorem State.setWarning_powered (w : WarningUnit) : (s.setWarning w).powered = s.powered := rfl
@[simp] theorem State.setWarning_cfg (w : WarningUnit) : (s.setWarning w).cfg = s.cfg := rfl
@[simp] theorem State.setWarning_store (w : WarningUnit) : (s.setWarning w).store = s.store := rfl
@[simp] theorem State.setWarning_save (w : WarningUnit) : (s.setWarning w).save = s.save := rfl
@[simp] theorem State.setWarning_retainedMark (w : WarningUnit) : (s.setWarning w).retainedMark = s.retainedMark := rfl
@[simp] theorem State.setWarning_clock (w : WarningUnit) : (s.setWarning w).clock = s.clock := rfl
@[simp] theorem State.setWarning_sensing (w : WarningUnit) : (s.setWarning w).sensing = s.sensing := rfl
@[simp] theorem State.setWarning_log (w : WarningUnit) : (s.setWarning w).log = s.log := rfl
@[simp] theorem State.setWarning_rating (w : WarningUnit) : (s.setWarning w).rating = s.rating := rfl
@[simp] theorem State.setWarning_outputs (w : WarningUnit) : (s.setWarning w).outputs = s.outputs := rfl
@[simp] theorem State.setWarning_cableway (w : WarningUnit) : (s.setWarning w).cableway = s.cableway := rfl
@[simp] theorem State.setWarning_run (w : WarningUnit) : (s.setWarning w).run = s.run := rfl
@[simp] theorem State.setWarning_ports (w : WarningUnit) : (s.setWarning w).ports = s.ports := rfl
@[simp] theorem State.setWarning_pending (w : WarningUnit) : (s.setWarning w).pending = s.pending := rfl

/-! `State.endTests` -/

@[simp] theorem State.endTests_powered : (s.endTests).powered = s.powered := rfl
@[simp] theorem State.endTests_cfg : (s.endTests).cfg = s.cfg := rfl
@[simp] theorem State.endTests_store : (s.endTests).store = s.store := rfl
@[simp] theorem State.endTests_save : (s.endTests).save = s.save := rfl
@[simp] theorem State.endTests_retainedMark : (s.endTests).retainedMark = s.retainedMark := rfl
@[simp] theorem State.endTests_clock : (s.endTests).clock = s.clock := rfl
@[simp] theorem State.endTests_sensing : (s.endTests).sensing = s.sensing := rfl
@[simp] theorem State.endTests_log : (s.endTests).log = s.log := rfl
@[simp] theorem State.endTests_rating : (s.endTests).rating = s.rating := rfl
@[simp] theorem State.endTests_warning : (s.endTests).warning = s.warning := rfl
@[simp] theorem State.endTests_cableway : (s.endTests).cableway = s.cableway := rfl
@[simp] theorem State.endTests_run : (s.endTests).run = s.run := rfl
@[simp] theorem State.endTests_ports : (s.endTests).ports = s.ports := rfl
@[simp] theorem State.endTests_pending : (s.endTests).pending = s.pending := rfl

/-! `State.hand` -/

@[simp] theorem State.hand_powered (out : Output) (n : Fin 8) : (s.hand out n).powered = s.powered := rfl
@[simp] theorem State.hand_cfg (out : Output) (n : Fin 8) : (s.hand out n).cfg = s.cfg := rfl
@[simp] theorem State.hand_store (out : Output) (n : Fin 8) : (s.hand out n).store = s.store := rfl
@[simp] theorem State.hand_save (out : Output) (n : Fin 8) : (s.hand out n).save = s.save := rfl
@[simp] theorem State.hand_retainedMark (out : Output) (n : Fin 8) : (s.hand out n).retainedMark = s.retainedMark := rfl
@[simp] theorem State.hand_clock (out : Output) (n : Fin 8) : (s.hand out n).clock = s.clock := rfl
@[simp] theorem State.hand_sensing (out : Output) (n : Fin 8) : (s.hand out n).sensing = s.sensing := rfl
@[simp] theorem State.hand_log (out : Output) (n : Fin 8) : (s.hand out n).log = s.log := rfl
@[simp] theorem State.hand_rating (out : Output) (n : Fin 8) : (s.hand out n).rating = s.rating := rfl
@[simp] theorem State.hand_warning (out : Output) (n : Fin 8) : (s.hand out n).warning = s.warning := rfl
@[simp] theorem State.hand_cableway (out : Output) (n : Fin 8) : (s.hand out n).cableway = s.cableway := rfl
@[simp] theorem State.hand_run (out : Output) (n : Fin 8) : (s.hand out n).run = s.run := rfl
@[simp] theorem State.hand_ports (out : Output) (n : Fin 8) : (s.hand out n).ports = s.ports := rfl
@[simp] theorem State.hand_pending (out : Output) (n : Fin 8) : (s.hand out n).pending = s.pending := rfl

/-! `State.handField` -/

@[simp] theorem State.handField_powered (out : Output) (x : Option (Fin 8)) : (s.handField out x).powered = s.powered :=
  by cases x <;> rfl
@[simp] theorem State.handField_cfg (out : Output) (x : Option (Fin 8)) : (s.handField out x).cfg = s.cfg :=
  by cases x <;> rfl
@[simp] theorem State.handField_store (out : Output) (x : Option (Fin 8)) : (s.handField out x).store = s.store :=
  by cases x <;> rfl
@[simp] theorem State.handField_save (out : Output) (x : Option (Fin 8)) : (s.handField out x).save = s.save :=
  by cases x <;> rfl
@[simp] theorem State.handField_retainedMark (out : Output) (x : Option (Fin 8)) : (s.handField out x).retainedMark = s.retainedMark :=
  by cases x <;> rfl
@[simp] theorem State.handField_clock (out : Output) (x : Option (Fin 8)) : (s.handField out x).clock = s.clock :=
  by cases x <;> rfl
@[simp] theorem State.handField_sensing (out : Output) (x : Option (Fin 8)) : (s.handField out x).sensing = s.sensing :=
  by cases x <;> rfl
@[simp] theorem State.handField_log (out : Output) (x : Option (Fin 8)) : (s.handField out x).log = s.log :=
  by cases x <;> rfl
@[simp] theorem State.handField_rating (out : Output) (x : Option (Fin 8)) : (s.handField out x).rating = s.rating :=
  by cases x <;> rfl
@[simp] theorem State.handField_warning (out : Output) (x : Option (Fin 8)) : (s.handField out x).warning = s.warning :=
  by cases x <;> rfl
@[simp] theorem State.handField_cableway (out : Output) (x : Option (Fin 8)) : (s.handField out x).cableway = s.cableway :=
  by cases x <;> rfl
@[simp] theorem State.handField_run (out : Output) (x : Option (Fin 8)) : (s.handField out x).run = s.run :=
  by cases x <;> rfl
@[simp] theorem State.handField_ports (out : Output) (x : Option (Fin 8)) : (s.handField out x).ports = s.ports :=
  by cases x <;> rfl
@[simp] theorem State.handField_pending (out : Output) (x : Option (Fin 8)) : (s.handField out x).pending = s.pending :=
  by cases x <;> rfl

/-! `State.handLevelPatterns` -/

@[simp] theorem State.handLevelPatterns_powered (l : Level) : (s.handLevelPatterns l).powered = s.powered := rfl
@[simp] theorem State.handLevelPatterns_cfg (l : Level) : (s.handLevelPatterns l).cfg = s.cfg := rfl
@[simp] theorem State.handLevelPatterns_store (l : Level) : (s.handLevelPatterns l).store = s.store := rfl
@[simp] theorem State.handLevelPatterns_save (l : Level) : (s.handLevelPatterns l).save = s.save := rfl
@[simp] theorem State.handLevelPatterns_retainedMark (l : Level) : (s.handLevelPatterns l).retainedMark = s.retainedMark :=
  rfl
@[simp] theorem State.handLevelPatterns_clock (l : Level) : (s.handLevelPatterns l).clock = s.clock := rfl
@[simp] theorem State.handLevelPatterns_sensing (l : Level) : (s.handLevelPatterns l).sensing = s.sensing := rfl
@[simp] theorem State.handLevelPatterns_log (l : Level) : (s.handLevelPatterns l).log = s.log := rfl
@[simp] theorem State.handLevelPatterns_rating (l : Level) : (s.handLevelPatterns l).rating = s.rating := rfl
@[simp] theorem State.handLevelPatterns_warning (l : Level) : (s.handLevelPatterns l).warning = s.warning := rfl
@[simp] theorem State.handLevelPatterns_cableway (l : Level) : (s.handLevelPatterns l).cableway = s.cableway := rfl
@[simp] theorem State.handLevelPatterns_run (l : Level) : (s.handLevelPatterns l).run = s.run := rfl
@[simp] theorem State.handLevelPatterns_ports (l : Level) : (s.handLevelPatterns l).ports = s.ports := rfl
@[simp] theorem State.handLevelPatterns_pending (l : Level) : (s.handLevelPatterns l).pending = s.pending := rfl

/-! `State.phaseExpiry` -/

@[simp] theorem State.phaseExpiry_powered (out : Output) (ms : Nat) : (s.phaseExpiry out ms).powered = s.powered := rfl
@[simp] theorem State.phaseExpiry_cfg (out : Output) (ms : Nat) : (s.phaseExpiry out ms).cfg = s.cfg := rfl
@[simp] theorem State.phaseExpiry_store (out : Output) (ms : Nat) : (s.phaseExpiry out ms).store = s.store := rfl
@[simp] theorem State.phaseExpiry_save (out : Output) (ms : Nat) : (s.phaseExpiry out ms).save = s.save := rfl
@[simp] theorem State.phaseExpiry_retainedMark (out : Output) (ms : Nat) : (s.phaseExpiry out ms).retainedMark = s.retainedMark :=
  rfl
@[simp] theorem State.phaseExpiry_clock (out : Output) (ms : Nat) : (s.phaseExpiry out ms).clock = s.clock := rfl
@[simp] theorem State.phaseExpiry_sensing (out : Output) (ms : Nat) : (s.phaseExpiry out ms).sensing = s.sensing := rfl
@[simp] theorem State.phaseExpiry_log (out : Output) (ms : Nat) : (s.phaseExpiry out ms).log = s.log := rfl
@[simp] theorem State.phaseExpiry_rating (out : Output) (ms : Nat) : (s.phaseExpiry out ms).rating = s.rating := rfl
@[simp] theorem State.phaseExpiry_warning (out : Output) (ms : Nat) : (s.phaseExpiry out ms).warning = s.warning := rfl
@[simp] theorem State.phaseExpiry_cableway (out : Output) (ms : Nat) : (s.phaseExpiry out ms).cableway = s.cableway := rfl
@[simp] theorem State.phaseExpiry_run (out : Output) (ms : Nat) : (s.phaseExpiry out ms).run = s.run := rfl
@[simp] theorem State.phaseExpiry_ports (out : Output) (ms : Nat) : (s.phaseExpiry out ms).ports = s.ports := rfl
@[simp] theorem State.phaseExpiry_pending (out : Output) (ms : Nat) : (s.phaseExpiry out ms).pending = s.pending := rfl

/-! `State.setRetrieve` -/

@[simp] theorem State.setRetrieve_powered (b : Bool) : (s.setRetrieve b).powered = s.powered := rfl
@[simp] theorem State.setRetrieve_cfg (b : Bool) : (s.setRetrieve b).cfg = s.cfg := rfl
@[simp] theorem State.setRetrieve_store (b : Bool) : (s.setRetrieve b).store = s.store := rfl
@[simp] theorem State.setRetrieve_save (b : Bool) : (s.setRetrieve b).save = s.save := rfl
@[simp] theorem State.setRetrieve_retainedMark (b : Bool) : (s.setRetrieve b).retainedMark = s.retainedMark := rfl
@[simp] theorem State.setRetrieve_clock (b : Bool) : (s.setRetrieve b).clock = s.clock := rfl
@[simp] theorem State.setRetrieve_sensing (b : Bool) : (s.setRetrieve b).sensing = s.sensing := rfl
@[simp] theorem State.setRetrieve_log (b : Bool) : (s.setRetrieve b).log = s.log := rfl
@[simp] theorem State.setRetrieve_rating (b : Bool) : (s.setRetrieve b).rating = s.rating := rfl
@[simp] theorem State.setRetrieve_warning (b : Bool) : (s.setRetrieve b).warning = s.warning := rfl
@[simp] theorem State.setRetrieve_cableway (b : Bool) : (s.setRetrieve b).cableway = s.cableway := rfl
@[simp] theorem State.setRetrieve_run (b : Bool) : (s.setRetrieve b).run = s.run := rfl
@[simp] theorem State.setRetrieve_ports (b : Bool) : (s.setRetrieve b).ports = s.ports := rfl
@[simp] theorem State.setRetrieve_pending (b : Bool) : (s.setRetrieve b).pending = s.pending := rfl

/-! `State.changeLevel` -/

@[simp] theorem State.changeLevel_powered (l : Level) (time : Nat) (way : LevelWay) : (s.changeLevel l time way).powered = s.powered :=
  rfl
@[simp] theorem State.changeLevel_cfg (l : Level) (time : Nat) (way : LevelWay) : (s.changeLevel l time way).cfg = s.cfg :=
  rfl
@[simp] theorem State.changeLevel_store (l : Level) (time : Nat) (way : LevelWay) : (s.changeLevel l time way).store = s.store :=
  rfl
@[simp] theorem State.changeLevel_save (l : Level) (time : Nat) (way : LevelWay) : (s.changeLevel l time way).save = s.save :=
  rfl
@[simp] theorem State.changeLevel_retainedMark (l : Level) (time : Nat) (way : LevelWay) : (s.changeLevel l time way).retainedMark = s.retainedMark :=
  rfl
@[simp] theorem State.changeLevel_clock (l : Level) (time : Nat) (way : LevelWay) : (s.changeLevel l time way).clock = s.clock :=
  rfl
@[simp] theorem State.changeLevel_sensing (l : Level) (time : Nat) (way : LevelWay) : (s.changeLevel l time way).sensing = s.sensing :=
  rfl
@[simp] theorem State.changeLevel_log (l : Level) (time : Nat) (way : LevelWay) : (s.changeLevel l time way).log = s.log :=
  rfl
@[simp] theorem State.changeLevel_rating (l : Level) (time : Nat) (way : LevelWay) : (s.changeLevel l time way).rating = s.rating :=
  rfl
@[simp] theorem State.changeLevel_cableway (l : Level) (time : Nat) (way : LevelWay) : (s.changeLevel l time way).cableway = s.cableway :=
  rfl
@[simp] theorem State.changeLevel_run (l : Level) (time : Nat) (way : LevelWay) : (s.changeLevel l time way).run = s.run :=
  rfl
@[simp] theorem State.changeLevel_ports (l : Level) (time : Nat) (way : LevelWay) : (s.changeLevel l time way).ports = s.ports :=
  rfl
@[simp] theorem State.changeLevel_pending (l : Level) (time : Nat) (way : LevelWay) : (s.changeLevel l time way).pending = s.pending :=
  rfl

/-! `State.setCtx` -/

@[simp] theorem State.setCtx_powered (c : RunContext) : (s.setCtx c).powered = s.powered := rfl
@[simp] theorem State.setCtx_cfg (c : RunContext) : (s.setCtx c).cfg = s.cfg := rfl
@[simp] theorem State.setCtx_store (c : RunContext) : (s.setCtx c).store = s.store := rfl
@[simp] theorem State.setCtx_save (c : RunContext) : (s.setCtx c).save = s.save := rfl
@[simp] theorem State.setCtx_retainedMark (c : RunContext) : (s.setCtx c).retainedMark = s.retainedMark := rfl
@[simp] theorem State.setCtx_clock (c : RunContext) : (s.setCtx c).clock = s.clock := rfl
@[simp] theorem State.setCtx_sensing (c : RunContext) : (s.setCtx c).sensing = s.sensing := rfl
@[simp] theorem State.setCtx_log (c : RunContext) : (s.setCtx c).log = s.log := rfl
@[simp] theorem State.setCtx_rating (c : RunContext) : (s.setCtx c).rating = s.rating := rfl
@[simp] theorem State.setCtx_warning (c : RunContext) : (s.setCtx c).warning = s.warning := rfl
@[simp] theorem State.setCtx_outputs (c : RunContext) : (s.setCtx c).outputs = s.outputs := rfl
@[simp] theorem State.setCtx_cableway (c : RunContext) : (s.setCtx c).cableway = s.cableway := rfl
@[simp] theorem State.setCtx_ports (c : RunContext) : (s.setCtx c).ports = s.ports := rfl
@[simp] theorem State.setCtx_pending (c : RunContext) : (s.setCtx c).pending = s.pending := rfl

/-! `State.setPhase` -/

@[simp] theorem State.setPhase_powered (c : RunContext) (ph : RunPhase) : (s.setPhase c ph).powered = s.powered := rfl
@[simp] theorem State.setPhase_cfg (c : RunContext) (ph : RunPhase) : (s.setPhase c ph).cfg = s.cfg := rfl
@[simp] theorem State.setPhase_store (c : RunContext) (ph : RunPhase) : (s.setPhase c ph).store = s.store := rfl
@[simp] theorem State.setPhase_save (c : RunContext) (ph : RunPhase) : (s.setPhase c ph).save = s.save := rfl
@[simp] theorem State.setPhase_retainedMark (c : RunContext) (ph : RunPhase) : (s.setPhase c ph).retainedMark = s.retainedMark :=
  rfl
@[simp] theorem State.setPhase_clock (c : RunContext) (ph : RunPhase) : (s.setPhase c ph).clock = s.clock := rfl
@[simp] theorem State.setPhase_sensing (c : RunContext) (ph : RunPhase) : (s.setPhase c ph).sensing = s.sensing := rfl
@[simp] theorem State.setPhase_log (c : RunContext) (ph : RunPhase) : (s.setPhase c ph).log = s.log := rfl
@[simp] theorem State.setPhase_rating (c : RunContext) (ph : RunPhase) : (s.setPhase c ph).rating = s.rating := rfl
@[simp] theorem State.setPhase_warning (c : RunContext) (ph : RunPhase) : (s.setPhase c ph).warning = s.warning := rfl
@[simp] theorem State.setPhase_outputs (c : RunContext) (ph : RunPhase) : (s.setPhase c ph).outputs = s.outputs := rfl
@[simp] theorem State.setPhase_cableway (c : RunContext) (ph : RunPhase) : (s.setPhase c ph).cableway = s.cableway := rfl
@[simp] theorem State.setPhase_ports (c : RunContext) (ph : RunPhase) : (s.setPhase c ph).ports = s.ports := rfl
@[simp] theorem State.setPhase_pending (c : RunContext) (ph : RunPhase) : (s.setPhase c ph).pending = s.pending := rfl

/-! `State.setSums` -/

@[simp] theorem State.setSums_powered (c : RunContext) (x : Sums) : (s.setSums c x).powered = s.powered := rfl
@[simp] theorem State.setSums_cfg (c : RunContext) (x : Sums) : (s.setSums c x).cfg = s.cfg := rfl
@[simp] theorem State.setSums_store (c : RunContext) (x : Sums) : (s.setSums c x).store = s.store := rfl
@[simp] theorem State.setSums_save (c : RunContext) (x : Sums) : (s.setSums c x).save = s.save := rfl
@[simp] theorem State.setSums_retainedMark (c : RunContext) (x : Sums) : (s.setSums c x).retainedMark = s.retainedMark := rfl
@[simp] theorem State.setSums_clock (c : RunContext) (x : Sums) : (s.setSums c x).clock = s.clock := rfl
@[simp] theorem State.setSums_sensing (c : RunContext) (x : Sums) : (s.setSums c x).sensing = s.sensing := rfl
@[simp] theorem State.setSums_log (c : RunContext) (x : Sums) : (s.setSums c x).log = s.log := rfl
@[simp] theorem State.setSums_rating (c : RunContext) (x : Sums) : (s.setSums c x).rating = s.rating := rfl
@[simp] theorem State.setSums_warning (c : RunContext) (x : Sums) : (s.setSums c x).warning = s.warning := rfl
@[simp] theorem State.setSums_outputs (c : RunContext) (x : Sums) : (s.setSums c x).outputs = s.outputs := rfl
@[simp] theorem State.setSums_cableway (c : RunContext) (x : Sums) : (s.setSums c x).cableway = s.cableway := rfl
@[simp] theorem State.setSums_ports (c : RunContext) (x : Sums) : (s.setSums c x).ports = s.ports := rfl
@[simp] theorem State.setSums_pending (c : RunContext) (x : Sums) : (s.setSums c x).pending = s.pending := rfl

/-! `State.openWith` -/

@[simp] theorem State.openWith_powered (c : RunContext) : (s.openWith c).powered = s.powered := rfl
@[simp] theorem State.openWith_cfg (c : RunContext) : (s.openWith c).cfg = s.cfg := rfl
@[simp] theorem State.openWith_store (c : RunContext) : (s.openWith c).store = s.store := rfl
@[simp] theorem State.openWith_save (c : RunContext) : (s.openWith c).save = s.save := rfl
@[simp] theorem State.openWith_retainedMark (c : RunContext) : (s.openWith c).retainedMark = s.retainedMark := rfl
@[simp] theorem State.openWith_clock (c : RunContext) : (s.openWith c).clock = s.clock := rfl
@[simp] theorem State.openWith_sensing (c : RunContext) : (s.openWith c).sensing = s.sensing := rfl
@[simp] theorem State.openWith_rating (c : RunContext) : (s.openWith c).rating = s.rating := rfl
@[simp] theorem State.openWith_warning (c : RunContext) : (s.openWith c).warning = s.warning := rfl
@[simp] theorem State.openWith_outputs (c : RunContext) : (s.openWith c).outputs = s.outputs := rfl
@[simp] theorem State.openWith_cableway (c : RunContext) : (s.openWith c).cableway = s.cableway := rfl
@[simp] theorem State.openWith_ports (c : RunContext) : (s.openWith c).ports = s.ports := rfl
@[simp] theorem State.openWith_pending (c : RunContext) : (s.openWith c).pending = s.pending := rfl

/-! `State.startExposure` -/

@[simp] theorem State.startExposure_powered (m : MeterNo) (target : Nat) : (s.startExposure m target).powered = s.powered :=
  rfl
@[simp] theorem State.startExposure_cfg (m : MeterNo) (target : Nat) : (s.startExposure m target).cfg = s.cfg := rfl
@[simp] theorem State.startExposure_store (m : MeterNo) (target : Nat) : (s.startExposure m target).store = s.store := rfl
@[simp] theorem State.startExposure_save (m : MeterNo) (target : Nat) : (s.startExposure m target).save = s.save := rfl
@[simp] theorem State.startExposure_retainedMark (m : MeterNo) (target : Nat) : (s.startExposure m target).retainedMark = s.retainedMark :=
  rfl
@[simp] theorem State.startExposure_clock (m : MeterNo) (target : Nat) : (s.startExposure m target).clock = s.clock := rfl
@[simp] theorem State.startExposure_sensing (m : MeterNo) (target : Nat) : (s.startExposure m target).sensing = s.sensing :=
  rfl
@[simp] theorem State.startExposure_log (m : MeterNo) (target : Nat) : (s.startExposure m target).log = s.log := rfl
@[simp] theorem State.startExposure_rating (m : MeterNo) (target : Nat) : (s.startExposure m target).rating = s.rating := rfl
@[simp] theorem State.startExposure_warning (m : MeterNo) (target : Nat) : (s.startExposure m target).warning = s.warning :=
  rfl
@[simp] theorem State.startExposure_outputs (m : MeterNo) (target : Nat) : (s.startExposure m target).outputs = s.outputs :=
  rfl
@[simp] theorem State.startExposure_run (m : MeterNo) (target : Nat) : (s.startExposure m target).run = s.run := rfl
@[simp] theorem State.startExposure_ports (m : MeterNo) (target : Nat) : (s.startExposure m target).ports = s.ports := rfl
@[simp] theorem State.startExposure_pending (m : MeterNo) (target : Nat) : (s.startExposure m target).pending = s.pending :=
  rfl

/-! `State.endExposure` -/

@[simp] theorem State.endExposure_powered (r : PointResult) : (s.endExposure r).powered = s.powered := rfl
@[simp] theorem State.endExposure_cfg (r : PointResult) : (s.endExposure r).cfg = s.cfg := rfl
@[simp] theorem State.endExposure_store (r : PointResult) : (s.endExposure r).store = s.store := rfl
@[simp] theorem State.endExposure_save (r : PointResult) : (s.endExposure r).save = s.save := rfl
@[simp] theorem State.endExposure_retainedMark (r : PointResult) : (s.endExposure r).retainedMark = s.retainedMark := rfl
@[simp] theorem State.endExposure_clock (r : PointResult) : (s.endExposure r).clock = s.clock := rfl
@[simp] theorem State.endExposure_sensing (r : PointResult) : (s.endExposure r).sensing = s.sensing := rfl
@[simp] theorem State.endExposure_log (r : PointResult) : (s.endExposure r).log = s.log := rfl
@[simp] theorem State.endExposure_rating (r : PointResult) : (s.endExposure r).rating = s.rating := rfl
@[simp] theorem State.endExposure_warning (r : PointResult) : (s.endExposure r).warning = s.warning := rfl
@[simp] theorem State.endExposure_outputs (r : PointResult) : (s.endExposure r).outputs = s.outputs := rfl
@[simp] theorem State.endExposure_run (r : PointResult) : (s.endExposure r).run = s.run := rfl
@[simp] theorem State.endExposure_ports (r : PointResult) : (s.endExposure r).ports = s.ports := rfl
@[simp] theorem State.endExposure_pending (r : PointResult) : (s.endExposure r).pending = s.pending := rfl

/-! `State.discardExposure` -/

@[simp] theorem State.discardExposure_powered : (s.discardExposure).powered = s.powered := rfl
@[simp] theorem State.discardExposure_cfg : (s.discardExposure).cfg = s.cfg := rfl
@[simp] theorem State.discardExposure_store : (s.discardExposure).store = s.store := rfl
@[simp] theorem State.discardExposure_save : (s.discardExposure).save = s.save := rfl
@[simp] theorem State.discardExposure_retainedMark : (s.discardExposure).retainedMark = s.retainedMark := rfl
@[simp] theorem State.discardExposure_clock : (s.discardExposure).clock = s.clock := rfl
@[simp] theorem State.discardExposure_sensing : (s.discardExposure).sensing = s.sensing := rfl
@[simp] theorem State.discardExposure_log : (s.discardExposure).log = s.log := rfl
@[simp] theorem State.discardExposure_rating : (s.discardExposure).rating = s.rating := rfl
@[simp] theorem State.discardExposure_warning : (s.discardExposure).warning = s.warning := rfl
@[simp] theorem State.discardExposure_outputs : (s.discardExposure).outputs = s.outputs := rfl
@[simp] theorem State.discardExposure_run : (s.discardExposure).run = s.run := rfl
@[simp] theorem State.discardExposure_ports : (s.discardExposure).ports = s.ports := rfl
@[simp] theorem State.discardExposure_pending : (s.discardExposure).pending = s.pending := rfl

/-! `State.passMs` -/

@[simp] theorem State.passMs_powered (ms : Nat) : (s.passMs ms).powered = s.powered := rfl
@[simp] theorem State.passMs_cfg (ms : Nat) : (s.passMs ms).cfg = s.cfg := rfl
@[simp] theorem State.passMs_store (ms : Nat) : (s.passMs ms).store = s.store := rfl
@[simp] theorem State.passMs_save (ms : Nat) : (s.passMs ms).save = s.save := rfl
@[simp] theorem State.passMs_retainedMark (ms : Nat) : (s.passMs ms).retainedMark = s.retainedMark := rfl
@[simp] theorem State.passMs_clock (ms : Nat) : (s.passMs ms).clock = s.clock := rfl
@[simp] theorem State.passMs_sensing (ms : Nat) : (s.passMs ms).sensing = s.sensing := rfl
@[simp] theorem State.passMs_log (ms : Nat) : (s.passMs ms).log = s.log := rfl
@[simp] theorem State.passMs_rating (ms : Nat) : (s.passMs ms).rating = s.rating := rfl
@[simp] theorem State.passMs_warning (ms : Nat) : (s.passMs ms).warning = s.warning := rfl
@[simp] theorem State.passMs_outputs (ms : Nat) : (s.passMs ms).outputs = s.outputs := rfl
@[simp] theorem State.passMs_run (ms : Nat) : (s.passMs ms).run = s.run := rfl
@[simp] theorem State.passMs_ports (ms : Nat) : (s.passMs ms).ports = s.ports := rfl
@[simp] theorem State.passMs_pending (ms : Nat) : (s.passMs ms).pending = s.pending := rfl

/-! `State.expireExposure` -/

@[simp] theorem State.expireExposure_powered : (s.expireExposure).powered = s.powered := by
  unfold State.expireExposure; split <;> [rfl; split] <;> [rfl; split] <;> rfl
@[simp] theorem State.expireExposure_cfg : (s.expireExposure).cfg = s.cfg := by
  unfold State.expireExposure; split <;> [rfl; split] <;> [rfl; split] <;> rfl
@[simp] theorem State.expireExposure_store : (s.expireExposure).store = s.store := by
  unfold State.expireExposure; split <;> [rfl; split] <;> [rfl; split] <;> rfl
@[simp] theorem State.expireExposure_save : (s.expireExposure).save = s.save := by
  unfold State.expireExposure; split <;> [rfl; split] <;> [rfl; split] <;> rfl
@[simp] theorem State.expireExposure_retainedMark : (s.expireExposure).retainedMark = s.retainedMark := by
  unfold State.expireExposure; split <;> [rfl; split] <;> [rfl; split] <;> rfl
@[simp] theorem State.expireExposure_clock : (s.expireExposure).clock = s.clock := by
  unfold State.expireExposure; split <;> [rfl; split] <;> [rfl; split] <;> rfl
@[simp] theorem State.expireExposure_sensing : (s.expireExposure).sensing = s.sensing := by
  unfold State.expireExposure; split <;> [rfl; split] <;> [rfl; split] <;> rfl
@[simp] theorem State.expireExposure_log : (s.expireExposure).log = s.log := by
  unfold State.expireExposure; split <;> [rfl; split] <;> [rfl; split] <;> rfl
@[simp] theorem State.expireExposure_rating : (s.expireExposure).rating = s.rating := by
  unfold State.expireExposure; split <;> [rfl; split] <;> [rfl; split] <;> rfl
@[simp] theorem State.expireExposure_warning : (s.expireExposure).warning = s.warning := by
  unfold State.expireExposure; split <;> [rfl; split] <;> [rfl; split] <;> rfl
@[simp] theorem State.expireExposure_outputs : (s.expireExposure).outputs = s.outputs := by
  unfold State.expireExposure; split <;> [rfl; split] <;> [rfl; split] <;> rfl
@[simp] theorem State.expireExposure_ports : (s.expireExposure).ports = s.ports := by
  unfold State.expireExposure; split <;> [rfl; split] <;> [rfl; split] <;> rfl
@[simp] theorem State.expireExposure_pending : (s.expireExposure).pending = s.pending := by
  unfold State.expireExposure; split <;> [rfl; split] <;> [rfl; split] <;> rfl

/-! `State.enterRetrieving` -/

@[simp] theorem State.enterRetrieving_powered (c : RunContext) (r : Rest) : (s.enterRetrieving c r).powered = s.powered :=
  rfl
@[simp] theorem State.enterRetrieving_cfg (c : RunContext) (r : Rest) : (s.enterRetrieving c r).cfg = s.cfg := rfl
@[simp] theorem State.enterRetrieving_store (c : RunContext) (r : Rest) : (s.enterRetrieving c r).store = s.store := rfl
@[simp] theorem State.enterRetrieving_save (c : RunContext) (r : Rest) : (s.enterRetrieving c r).save = s.save := rfl
@[simp] theorem State.enterRetrieving_retainedMark (c : RunContext) (r : Rest) : (s.enterRetrieving c r).retainedMark = s.retainedMark :=
  rfl
@[simp] theorem State.enterRetrieving_clock (c : RunContext) (r : Rest) : (s.enterRetrieving c r).clock = s.clock := rfl
@[simp] theorem State.enterRetrieving_sensing (c : RunContext) (r : Rest) : (s.enterRetrieving c r).sensing = s.sensing :=
  rfl
@[simp] theorem State.enterRetrieving_log (c : RunContext) (r : Rest) : (s.enterRetrieving c r).log = s.log := rfl
@[simp] theorem State.enterRetrieving_rating (c : RunContext) (r : Rest) : (s.enterRetrieving c r).rating = s.rating := rfl
@[simp] theorem State.enterRetrieving_warning (c : RunContext) (r : Rest) : (s.enterRetrieving c r).warning = s.warning :=
  rfl
@[simp] theorem State.enterRetrieving_cableway (c : RunContext) (r : Rest) : (s.enterRetrieving c r).cableway = s.cableway :=
  rfl
@[simp] theorem State.enterRetrieving_ports (c : RunContext) (r : Rest) : (s.enterRetrieving c r).ports = s.ports := rfl
@[simp] theorem State.enterRetrieving_pending (c : RunContext) (r : Rest) : (s.enterRetrieving c r).pending = s.pending :=
  rfl

/-! `State.postRetrieve` -/

@[simp] theorem State.postRetrieve_powered (c : RunContext) (time : Nat) (e : Option RunState) : (s.postRetrieve c time e).powered = s.powered :=
  by unfold State.postRetrieve; split <;> simp
@[simp] theorem State.postRetrieve_cfg (c : RunContext) (time : Nat) (e : Option RunState) : (s.postRetrieve c time e).cfg = s.cfg :=
  by unfold State.postRetrieve; split <;> simp
@[simp] theorem State.postRetrieve_store (c : RunContext) (time : Nat) (e : Option RunState) : (s.postRetrieve c time e).store = s.store :=
  by unfold State.postRetrieve; split <;> simp
@[simp] theorem State.postRetrieve_save (c : RunContext) (time : Nat) (e : Option RunState) : (s.postRetrieve c time e).save = s.save :=
  by unfold State.postRetrieve; split <;> simp
@[simp] theorem State.postRetrieve_retainedMark (c : RunContext) (time : Nat) (e : Option RunState) : (s.postRetrieve c time e).retainedMark = s.retainedMark :=
  by unfold State.postRetrieve; split <;> simp
@[simp] theorem State.postRetrieve_clock (c : RunContext) (time : Nat) (e : Option RunState) : (s.postRetrieve c time e).clock = s.clock :=
  by unfold State.postRetrieve; split <;> simp
@[simp] theorem State.postRetrieve_sensing (c : RunContext) (time : Nat) (e : Option RunState) : (s.postRetrieve c time e).sensing = s.sensing :=
  by unfold State.postRetrieve; split <;> simp
@[simp] theorem State.postRetrieve_log (c : RunContext) (time : Nat) (e : Option RunState) : (s.postRetrieve c time e).log = s.log :=
  by unfold State.postRetrieve; split <;> simp
@[simp] theorem State.postRetrieve_rating (c : RunContext) (time : Nat) (e : Option RunState) : (s.postRetrieve c time e).rating = s.rating :=
  by unfold State.postRetrieve; split <;> simp
@[simp] theorem State.postRetrieve_warning (c : RunContext) (time : Nat) (e : Option RunState) : (s.postRetrieve c time e).warning = s.warning :=
  by unfold State.postRetrieve; split <;> simp
@[simp] theorem State.postRetrieve_outputs (c : RunContext) (time : Nat) (e : Option RunState) : (s.postRetrieve c time e).outputs = s.outputs :=
  by unfold State.postRetrieve; split <;> simp
@[simp] theorem State.postRetrieve_cableway (c : RunContext) (time : Nat) (e : Option RunState) : (s.postRetrieve c time e).cableway = s.cableway :=
  by unfold State.postRetrieve; split <;> simp
@[simp] theorem State.postRetrieve_run (c : RunContext) (time : Nat) (e : Option RunState) : (s.postRetrieve c time e).run = s.run :=
  by unfold State.postRetrieve; split <;> simp
@[simp] theorem State.postRetrieve_pending (c : RunContext) (time : Nat) (e : Option RunState) : (s.postRetrieve c time e).pending = s.pending :=
  by unfold State.postRetrieve; split <;> simp

/-! `State.retrieve` -/

@[simp] theorem State.retrieve_powered (time : Nat) : (s.retrieve time).powered = s.powered := by
  unfold State.retrieve; split
  · rfl
  · split <;> [skip; skip; skip; skip; split] <;> simp
@[simp] theorem State.retrieve_cfg (time : Nat) : (s.retrieve time).cfg = s.cfg := by
  unfold State.retrieve; split
  · rfl
  · split <;> [skip; skip; skip; skip; split] <;> simp
@[simp] theorem State.retrieve_store (time : Nat) : (s.retrieve time).store = s.store := by
  unfold State.retrieve; split
  · rfl
  · split <;> [skip; skip; skip; skip; split] <;> simp
@[simp] theorem State.retrieve_save (time : Nat) : (s.retrieve time).save = s.save := by
  unfold State.retrieve; split
  · rfl
  · split <;> [skip; skip; skip; skip; split] <;> simp
@[simp] theorem State.retrieve_retainedMark (time : Nat) : (s.retrieve time).retainedMark = s.retainedMark := by
  unfold State.retrieve; split
  · rfl
  · split <;> [skip; skip; skip; skip; split] <;> simp
@[simp] theorem State.retrieve_clock (time : Nat) : (s.retrieve time).clock = s.clock := by
  unfold State.retrieve; split
  · rfl
  · split <;> [skip; skip; skip; skip; split] <;> simp
@[simp] theorem State.retrieve_sensing (time : Nat) : (s.retrieve time).sensing = s.sensing := by
  unfold State.retrieve; split
  · rfl
  · split <;> [skip; skip; skip; skip; split] <;> simp
@[simp] theorem State.retrieve_log (time : Nat) : (s.retrieve time).log = s.log := by
  unfold State.retrieve; split
  · rfl
  · split <;> [skip; skip; skip; skip; split] <;> simp
@[simp] theorem State.retrieve_rating (time : Nat) : (s.retrieve time).rating = s.rating := by
  unfold State.retrieve; split
  · rfl
  · split <;> [skip; skip; skip; skip; split] <;> simp
@[simp] theorem State.retrieve_warning (time : Nat) : (s.retrieve time).warning = s.warning := by
  unfold State.retrieve; split
  · rfl
  · split <;> [skip; skip; skip; skip; split] <;> simp
@[simp] theorem State.retrieve_pending (time : Nat) : (s.retrieve time).pending = s.pending := by
  unfold State.retrieve; split
  · rfl
  · split <;> [skip; skip; skip; skip; split] <;> simp

/-! `State.abandonWork` -/

@[simp] theorem State.abandonWork_powered (ph : RunPhase) : (s.abandonWork ph).powered = s.powered := by cases ph <;> rfl
@[simp] theorem State.abandonWork_cfg (ph : RunPhase) : (s.abandonWork ph).cfg = s.cfg := by cases ph <;> rfl
@[simp] theorem State.abandonWork_store (ph : RunPhase) : (s.abandonWork ph).store = s.store := by cases ph <;> rfl
@[simp] theorem State.abandonWork_save (ph : RunPhase) : (s.abandonWork ph).save = s.save := by cases ph <;> rfl
@[simp] theorem State.abandonWork_retainedMark (ph : RunPhase) : (s.abandonWork ph).retainedMark = s.retainedMark :=
  by cases ph <;> rfl
@[simp] theorem State.abandonWork_clock (ph : RunPhase) : (s.abandonWork ph).clock = s.clock := by cases ph <;> rfl
@[simp] theorem State.abandonWork_sensing (ph : RunPhase) : (s.abandonWork ph).sensing = s.sensing := by cases ph <;> rfl
@[simp] theorem State.abandonWork_log (ph : RunPhase) : (s.abandonWork ph).log = s.log := by cases ph <;> rfl
@[simp] theorem State.abandonWork_rating (ph : RunPhase) : (s.abandonWork ph).rating = s.rating := by cases ph <;> rfl
@[simp] theorem State.abandonWork_warning (ph : RunPhase) : (s.abandonWork ph).warning = s.warning := by cases ph <;> rfl
@[simp] theorem State.abandonWork_run (ph : RunPhase) : (s.abandonWork ph).run = s.run := by cases ph <;> rfl
@[simp] theorem State.abandonWork_ports (ph : RunPhase) : (s.abandonWork ph).ports = s.ports := by cases ph <;> rfl
@[simp] theorem State.abandonWork_pending (ph : RunPhase) : (s.abandonWork ph).pending = s.pending := by cases ph <;> rfl

/-! `State.endRun` -/

@[simp] theorem State.endRun_powered (c : RunContext) (r : RunResult) (way : Param) : (s.endRun c r way).powered = s.powered :=
  by simp [State.endRun]
@[simp] theorem State.endRun_cfg (c : RunContext) (r : RunResult) (way : Param) : (s.endRun c r way).cfg = s.cfg :=
  by simp [State.endRun]
@[simp] theorem State.endRun_store (c : RunContext) (r : RunResult) (way : Param) : (s.endRun c r way).store = s.store :=
  by simp [State.endRun]
@[simp] theorem State.endRun_save (c : RunContext) (r : RunResult) (way : Param) : (s.endRun c r way).save = s.save :=
  by simp [State.endRun]
@[simp] theorem State.endRun_retainedMark (c : RunContext) (r : RunResult) (way : Param) : (s.endRun c r way).retainedMark = s.retainedMark :=
  by simp [State.endRun]
@[simp] theorem State.endRun_clock (c : RunContext) (r : RunResult) (way : Param) : (s.endRun c r way).clock = s.clock :=
  by simp [State.endRun]
@[simp] theorem State.endRun_sensing (c : RunContext) (r : RunResult) (way : Param) : (s.endRun c r way).sensing = s.sensing :=
  by simp [State.endRun]
@[simp] theorem State.endRun_log (c : RunContext) (r : RunResult) (way : Param) : (s.endRun c r way).log = s.log :=
  by simp [State.endRun]
@[simp] theorem State.endRun_rating (c : RunContext) (r : RunResult) (way : Param) : (s.endRun c r way).rating = s.rating :=
  by simp [State.endRun]
@[simp] theorem State.endRun_warning (c : RunContext) (r : RunResult) (way : Param) : (s.endRun c r way).warning = s.warning :=
  by simp [State.endRun]
@[simp] theorem State.endRun_outputs (c : RunContext) (r : RunResult) (way : Param) : (s.endRun c r way).outputs = s.outputs :=
  by simp [State.endRun]
@[simp] theorem State.endRun_cableway (c : RunContext) (r : RunResult) (way : Param) : (s.endRun c r way).cableway = s.cableway :=
  by simp [State.endRun]
@[simp] theorem State.endRun_pending (c : RunContext) (r : RunResult) (way : Param) : (s.endRun c r way).pending = s.pending :=
  by simp [State.endRun]

/-! `State.unhold` -/

@[simp] theorem State.unhold_powered (p : Port) : (s.unhold p).powered = s.powered :=
  by unfold State.unhold; split <;> [split; skip] <;> rfl
@[simp] theorem State.unhold_cfg (p : Port) : (s.unhold p).cfg = s.cfg :=
  by unfold State.unhold; split <;> [split; skip] <;> rfl
@[simp] theorem State.unhold_store (p : Port) : (s.unhold p).store = s.store :=
  by unfold State.unhold; split <;> [split; skip] <;> rfl
@[simp] theorem State.unhold_save (p : Port) : (s.unhold p).save = s.save :=
  by unfold State.unhold; split <;> [split; skip] <;> rfl
@[simp] theorem State.unhold_retainedMark (p : Port) : (s.unhold p).retainedMark = s.retainedMark :=
  by unfold State.unhold; split <;> [split; skip] <;> rfl
@[simp] theorem State.unhold_clock (p : Port) : (s.unhold p).clock = s.clock :=
  by unfold State.unhold; split <;> [split; skip] <;> rfl
@[simp] theorem State.unhold_sensing (p : Port) : (s.unhold p).sensing = s.sensing :=
  by unfold State.unhold; split <;> [split; skip] <;> rfl
@[simp] theorem State.unhold_log (p : Port) : (s.unhold p).log = s.log :=
  by unfold State.unhold; split <;> [split; skip] <;> rfl
@[simp] theorem State.unhold_rating (p : Port) : (s.unhold p).rating = s.rating :=
  by unfold State.unhold; split <;> [split; skip] <;> rfl
@[simp] theorem State.unhold_warning (p : Port) : (s.unhold p).warning = s.warning :=
  by unfold State.unhold; split <;> [split; skip] <;> rfl
@[simp] theorem State.unhold_outputs (p : Port) : (s.unhold p).outputs = s.outputs :=
  by unfold State.unhold; split <;> [split; skip] <;> rfl
@[simp] theorem State.unhold_cableway (p : Port) : (s.unhold p).cableway = s.cableway :=
  by unfold State.unhold; split <;> [split; skip] <;> rfl
@[simp] theorem State.unhold_ports (p : Port) : (s.unhold p).ports = s.ports :=
  by unfold State.unhold; split <;> [split; skip] <;> rfl
@[simp] theorem State.unhold_pending (p : Port) : (s.unhold p).pending = s.pending :=
  by unfold State.unhold; split <;> [split; skip] <;> rfl

/-! `State.skipEntries` -/

@[simp] theorem State.skipEntries_powered (p : Port) (k c : Nat) : (s.skipEntries p k c).powered = s.powered :=
  by simp [State.skipEntries]
@[simp] theorem State.skipEntries_cfg (p : Port) (k c : Nat) : (s.skipEntries p k c).cfg = s.cfg :=
  by simp [State.skipEntries]
@[simp] theorem State.skipEntries_store (p : Port) (k c : Nat) : (s.skipEntries p k c).store = s.store :=
  by simp [State.skipEntries]
@[simp] theorem State.skipEntries_save (p : Port) (k c : Nat) : (s.skipEntries p k c).save = s.save :=
  by simp [State.skipEntries]
@[simp] theorem State.skipEntries_retainedMark (p : Port) (k c : Nat) : (s.skipEntries p k c).retainedMark = s.retainedMark :=
  by simp [State.skipEntries]
@[simp] theorem State.skipEntries_clock (p : Port) (k c : Nat) : (s.skipEntries p k c).clock = s.clock :=
  by simp [State.skipEntries]
@[simp] theorem State.skipEntries_sensing (p : Port) (k c : Nat) : (s.skipEntries p k c).sensing = s.sensing :=
  by simp [State.skipEntries]
@[simp] theorem State.skipEntries_rating (p : Port) (k c : Nat) : (s.skipEntries p k c).rating = s.rating :=
  by simp [State.skipEntries]
@[simp] theorem State.skipEntries_warning (p : Port) (k c : Nat) : (s.skipEntries p k c).warning = s.warning :=
  by simp [State.skipEntries]
@[simp] theorem State.skipEntries_outputs (p : Port) (k c : Nat) : (s.skipEntries p k c).outputs = s.outputs :=
  by simp [State.skipEntries]
@[simp] theorem State.skipEntries_cableway (p : Port) (k c : Nat) : (s.skipEntries p k c).cableway = s.cableway :=
  by simp [State.skipEntries]
@[simp] theorem State.skipEntries_run (p : Port) (k c : Nat) : (s.skipEntries p k c).run = s.run :=
  by simp [State.skipEntries]
@[simp] theorem State.skipEntries_pending (p : Port) (k c : Nat) : (s.skipEntries p k c).pending = s.pending :=
  by simp [State.skipEntries]

/-! `State.wrapCursor` -/

@[simp] theorem State.wrapCursor_powered (p : Port) : (s.wrapCursor p).powered = s.powered :=
  by unfold State.wrapCursor; split <;> simp
@[simp] theorem State.wrapCursor_cfg (p : Port) : (s.wrapCursor p).cfg = s.cfg := by unfold State.wrapCursor; split <;> simp
@[simp] theorem State.wrapCursor_store (p : Port) : (s.wrapCursor p).store = s.store :=
  by unfold State.wrapCursor; split <;> simp
@[simp] theorem State.wrapCursor_save (p : Port) : (s.wrapCursor p).save = s.save :=
  by unfold State.wrapCursor; split <;> simp
@[simp] theorem State.wrapCursor_retainedMark (p : Port) : (s.wrapCursor p).retainedMark = s.retainedMark :=
  by unfold State.wrapCursor; split <;> simp
@[simp] theorem State.wrapCursor_clock (p : Port) : (s.wrapCursor p).clock = s.clock :=
  by unfold State.wrapCursor; split <;> simp
@[simp] theorem State.wrapCursor_sensing (p : Port) : (s.wrapCursor p).sensing = s.sensing :=
  by unfold State.wrapCursor; split <;> simp
@[simp] theorem State.wrapCursor_rating (p : Port) : (s.wrapCursor p).rating = s.rating :=
  by unfold State.wrapCursor; split <;> simp
@[simp] theorem State.wrapCursor_warning (p : Port) : (s.wrapCursor p).warning = s.warning :=
  by unfold State.wrapCursor; split <;> simp
@[simp] theorem State.wrapCursor_outputs (p : Port) : (s.wrapCursor p).outputs = s.outputs :=
  by unfold State.wrapCursor; split <;> simp
@[simp] theorem State.wrapCursor_cableway (p : Port) : (s.wrapCursor p).cableway = s.cableway :=
  by unfold State.wrapCursor; split <;> simp
@[simp] theorem State.wrapCursor_run (p : Port) : (s.wrapCursor p).run = s.run := by unfold State.wrapCursor; split <;> simp
@[simp] theorem State.wrapCursor_pending (p : Port) : (s.wrapCursor p).pending = s.pending :=
  by unfold State.wrapCursor; split <;> simp

/-! `State.wrapLog` -/

@[simp] theorem State.wrapLog_powered : (s.wrapLog).powered = s.powered := by unfold State.wrapLog; split <;> simp
@[simp] theorem State.wrapLog_cfg : (s.wrapLog).cfg = s.cfg := by unfold State.wrapLog; split <;> simp
@[simp] theorem State.wrapLog_store : (s.wrapLog).store = s.store := by unfold State.wrapLog; split <;> simp
@[simp] theorem State.wrapLog_save : (s.wrapLog).save = s.save := by unfold State.wrapLog; split <;> simp
@[simp] theorem State.wrapLog_retainedMark : (s.wrapLog).retainedMark = s.retainedMark :=
  by unfold State.wrapLog; split <;> simp
@[simp] theorem State.wrapLog_clock : (s.wrapLog).clock = s.clock := by unfold State.wrapLog; split <;> simp
@[simp] theorem State.wrapLog_sensing : (s.wrapLog).sensing = s.sensing := by unfold State.wrapLog; split <;> simp
@[simp] theorem State.wrapLog_rating : (s.wrapLog).rating = s.rating := by unfold State.wrapLog; split <;> simp
@[simp] theorem State.wrapLog_warning : (s.wrapLog).warning = s.warning := by unfold State.wrapLog; split <;> simp
@[simp] theorem State.wrapLog_outputs : (s.wrapLog).outputs = s.outputs := by unfold State.wrapLog; split <;> simp
@[simp] theorem State.wrapLog_cableway : (s.wrapLog).cableway = s.cableway := by unfold State.wrapLog; split <;> simp
@[simp] theorem State.wrapLog_run : (s.wrapLog).run = s.run := by unfold State.wrapLog; split <;> simp
@[simp] theorem State.wrapLog_pending : (s.wrapLog).pending = s.pending := by unfold State.wrapLog; split <;> simp

/-! `State.pushCursor` -/

@[simp] theorem State.pushCursor_powered (k : Nat) (p : Port) : (s.pushCursor k p).powered = s.powered :=
  by unfold State.pushCursor; split <;> simp
@[simp] theorem State.pushCursor_cfg (k : Nat) (p : Port) : (s.pushCursor k p).cfg = s.cfg :=
  by unfold State.pushCursor; split <;> simp
@[simp] theorem State.pushCursor_store (k : Nat) (p : Port) : (s.pushCursor k p).store = s.store :=
  by unfold State.pushCursor; split <;> simp
@[simp] theorem State.pushCursor_save (k : Nat) (p : Port) : (s.pushCursor k p).save = s.save :=
  by unfold State.pushCursor; split <;> simp
@[simp] theorem State.pushCursor_retainedMark (k : Nat) (p : Port) : (s.pushCursor k p).retainedMark = s.retainedMark :=
  by unfold State.pushCursor; split <;> simp
@[simp] theorem State.pushCursor_clock (k : Nat) (p : Port) : (s.pushCursor k p).clock = s.clock :=
  by unfold State.pushCursor; split <;> simp
@[simp] theorem State.pushCursor_sensing (k : Nat) (p : Port) : (s.pushCursor k p).sensing = s.sensing :=
  by unfold State.pushCursor; split <;> simp
@[simp] theorem State.pushCursor_rating (k : Nat) (p : Port) : (s.pushCursor k p).rating = s.rating :=
  by unfold State.pushCursor; split <;> simp
@[simp] theorem State.pushCursor_warning (k : Nat) (p : Port) : (s.pushCursor k p).warning = s.warning :=
  by unfold State.pushCursor; split <;> simp
@[simp] theorem State.pushCursor_outputs (k : Nat) (p : Port) : (s.pushCursor k p).outputs = s.outputs :=
  by unfold State.pushCursor; split <;> simp
@[simp] theorem State.pushCursor_cableway (k : Nat) (p : Port) : (s.pushCursor k p).cableway = s.cableway :=
  by unfold State.pushCursor; split <;> simp
@[simp] theorem State.pushCursor_run (k : Nat) (p : Port) : (s.pushCursor k p).run = s.run :=
  by unfold State.pushCursor; split <;> simp
@[simp] theorem State.pushCursor_pending (k : Nat) (p : Port) : (s.pushCursor k p).pending = s.pending :=
  by unfold State.pushCursor; split <;> simp

/-! `State.dropOldest` -/

@[simp] theorem State.dropOldest_powered : (s.dropOldest).powered = s.powered :=
  by unfold State.dropOldest; split <;> [split; skip] <;> simp
@[simp] theorem State.dropOldest_cfg : (s.dropOldest).cfg = s.cfg :=
  by unfold State.dropOldest; split <;> [split; skip] <;> simp
@[simp] theorem State.dropOldest_store : (s.dropOldest).store = s.store :=
  by unfold State.dropOldest; split <;> [split; skip] <;> simp
@[simp] theorem State.dropOldest_save : (s.dropOldest).save = s.save :=
  by unfold State.dropOldest; split <;> [split; skip] <;> simp
@[simp] theorem State.dropOldest_retainedMark : (s.dropOldest).retainedMark = s.retainedMark :=
  by unfold State.dropOldest; split <;> [split; skip] <;> simp
@[simp] theorem State.dropOldest_clock : (s.dropOldest).clock = s.clock :=
  by unfold State.dropOldest; split <;> [split; skip] <;> simp
@[simp] theorem State.dropOldest_sensing : (s.dropOldest).sensing = s.sensing :=
  by unfold State.dropOldest; split <;> [split; skip] <;> simp
@[simp] theorem State.dropOldest_rating : (s.dropOldest).rating = s.rating :=
  by unfold State.dropOldest; split <;> [split; skip] <;> simp
@[simp] theorem State.dropOldest_warning : (s.dropOldest).warning = s.warning :=
  by unfold State.dropOldest; split <;> [split; skip] <;> simp
@[simp] theorem State.dropOldest_outputs : (s.dropOldest).outputs = s.outputs :=
  by unfold State.dropOldest; split <;> [split; skip] <;> simp
@[simp] theorem State.dropOldest_cableway : (s.dropOldest).cableway = s.cableway :=
  by unfold State.dropOldest; split <;> [split; skip] <;> simp
@[simp] theorem State.dropOldest_run : (s.dropOldest).run = s.run :=
  by unfold State.dropOldest; split <;> [split; skip] <;> simp
@[simp] theorem State.dropOldest_pending : (s.dropOldest).pending = s.pending :=
  by unfold State.dropOldest; split <;> [split; skip] <;> simp

/-! `State.writeEntry` -/

@[simp] theorem State.writeEntry_powered (l : Level) : (s.writeEntry l).powered = s.powered := by simp [State.writeEntry]
@[simp] theorem State.writeEntry_cfg (l : Level) : (s.writeEntry l).cfg = s.cfg := by simp [State.writeEntry]
@[simp] theorem State.writeEntry_store (l : Level) : (s.writeEntry l).store = s.store := by simp [State.writeEntry]
@[simp] theorem State.writeEntry_save (l : Level) : (s.writeEntry l).save = s.save := by simp [State.writeEntry]
@[simp] theorem State.writeEntry_retainedMark (l : Level) : (s.writeEntry l).retainedMark = s.retainedMark :=
  by simp [State.writeEntry]
@[simp] theorem State.writeEntry_clock (l : Level) : (s.writeEntry l).clock = s.clock := by simp [State.writeEntry]
@[simp] theorem State.writeEntry_sensing (l : Level) : (s.writeEntry l).sensing = s.sensing := by simp [State.writeEntry]
@[simp] theorem State.writeEntry_rating (l : Level) : (s.writeEntry l).rating = s.rating := by simp [State.writeEntry]
@[simp] theorem State.writeEntry_warning (l : Level) : (s.writeEntry l).warning = s.warning := by simp [State.writeEntry]
@[simp] theorem State.writeEntry_outputs (l : Level) : (s.writeEntry l).outputs = s.outputs := by simp [State.writeEntry]
@[simp] theorem State.writeEntry_cableway (l : Level) : (s.writeEntry l).cableway = s.cableway := by simp [State.writeEntry]
@[simp] theorem State.writeEntry_run (l : Level) : (s.writeEntry l).run = s.run := by simp [State.writeEntry]
@[simp] theorem State.writeEntry_pending (l : Level) : (s.writeEntry l).pending = s.pending := by simp [State.writeEntry]

/-! `State.beginEntry` -/

@[simp] theorem State.beginEntry_powered : (s.beginEntry).powered = s.powered := rfl
@[simp] theorem State.beginEntry_cfg : (s.beginEntry).cfg = s.cfg := rfl
@[simp] theorem State.beginEntry_store : (s.beginEntry).store = s.store := rfl
@[simp] theorem State.beginEntry_save : (s.beginEntry).save = s.save := rfl
@[simp] theorem State.beginEntry_retainedMark : (s.beginEntry).retainedMark = s.retainedMark := rfl
@[simp] theorem State.beginEntry_clock : (s.beginEntry).clock = s.clock := rfl
@[simp] theorem State.beginEntry_sensing : (s.beginEntry).sensing = s.sensing := rfl
@[simp] theorem State.beginEntry_rating : (s.beginEntry).rating = s.rating := rfl
@[simp] theorem State.beginEntry_warning : (s.beginEntry).warning = s.warning := rfl
@[simp] theorem State.beginEntry_outputs : (s.beginEntry).outputs = s.outputs := rfl
@[simp] theorem State.beginEntry_cableway : (s.beginEntry).cableway = s.cableway := rfl
@[simp] theorem State.beginEntry_run : (s.beginEntry).run = s.run := rfl
@[simp] theorem State.beginEntry_ports : (s.beginEntry).ports = s.ports := rfl
@[simp] theorem State.beginEntry_pending : (s.beginEntry).pending = s.pending := rfl

/-! `State.closeEntry` -/

@[simp] theorem State.closeEntry_powered (l : Level) : (s.closeEntry l).powered = s.powered :=
  by unfold State.closeEntry; split <;> simp
@[simp] theorem State.closeEntry_cfg (l : Level) : (s.closeEntry l).cfg = s.cfg := by unfold State.closeEntry; split <;> simp
@[simp] theorem State.closeEntry_store (l : Level) : (s.closeEntry l).store = s.store :=
  by unfold State.closeEntry; split <;> simp
@[simp] theorem State.closeEntry_save (l : Level) : (s.closeEntry l).save = s.save :=
  by unfold State.closeEntry; split <;> simp
@[simp] theorem State.closeEntry_retainedMark (l : Level) : (s.closeEntry l).retainedMark = s.retainedMark :=
  by unfold State.closeEntry; split <;> simp
@[simp] theorem State.closeEntry_clock (l : Level) : (s.closeEntry l).clock = s.clock :=
  by unfold State.closeEntry; split <;> simp
@[simp] theorem State.closeEntry_sensing (l : Level) : (s.closeEntry l).sensing = s.sensing :=
  by unfold State.closeEntry; split <;> simp
@[simp] theorem State.closeEntry_rating (l : Level) : (s.closeEntry l).rating = s.rating :=
  by unfold State.closeEntry; split <;> simp
@[simp] theorem State.closeEntry_warning (l : Level) : (s.closeEntry l).warning = s.warning :=
  by unfold State.closeEntry; split <;> simp
@[simp] theorem State.closeEntry_outputs (l : Level) : (s.closeEntry l).outputs = s.outputs :=
  by unfold State.closeEntry; split <;> simp
@[simp] theorem State.closeEntry_cableway (l : Level) : (s.closeEntry l).cableway = s.cableway :=
  by unfold State.closeEntry; split <;> simp
@[simp] theorem State.closeEntry_run (l : Level) : (s.closeEntry l).run = s.run := by unfold State.closeEntry; split <;> simp
@[simp] theorem State.closeEntry_pending (l : Level) : (s.closeEntry l).pending = s.pending :=
  by unfold State.closeEntry; split <;> simp

/-! `State.changeInterval` -/

@[simp] theorem State.changeInterval_powered (i : Interval) (l : Level) : (s.changeInterval i l).powered = s.powered :=
  by unfold State.changeInterval; split <;> simp
@[simp] theorem State.changeInterval_cfg (i : Interval) (l : Level) : (s.changeInterval i l).cfg = s.cfg :=
  by unfold State.changeInterval; split <;> simp
@[simp] theorem State.changeInterval_store (i : Interval) (l : Level) : (s.changeInterval i l).store = s.store :=
  by unfold State.changeInterval; split <;> simp
@[simp] theorem State.changeInterval_save (i : Interval) (l : Level) : (s.changeInterval i l).save = s.save :=
  by unfold State.changeInterval; split <;> simp
@[simp] theorem State.changeInterval_retainedMark (i : Interval) (l : Level) : (s.changeInterval i l).retainedMark = s.retainedMark :=
  by unfold State.changeInterval; split <;> simp
@[simp] theorem State.changeInterval_clock (i : Interval) (l : Level) : (s.changeInterval i l).clock = s.clock :=
  by unfold State.changeInterval; split <;> simp
@[simp] theorem State.changeInterval_sensing (i : Interval) (l : Level) : (s.changeInterval i l).sensing = s.sensing :=
  by unfold State.changeInterval; split <;> simp
@[simp] theorem State.changeInterval_rating (i : Interval) (l : Level) : (s.changeInterval i l).rating = s.rating :=
  by unfold State.changeInterval; split <;> simp
@[simp] theorem State.changeInterval_warning (i : Interval) (l : Level) : (s.changeInterval i l).warning = s.warning :=
  by unfold State.changeInterval; split <;> simp
@[simp] theorem State.changeInterval_outputs (i : Interval) (l : Level) : (s.changeInterval i l).outputs = s.outputs :=
  by unfold State.changeInterval; split <;> simp
@[simp] theorem State.changeInterval_cableway (i : Interval) (l : Level) : (s.changeInterval i l).cableway = s.cableway :=
  by unfold State.changeInterval; split <;> simp
@[simp] theorem State.changeInterval_run (i : Interval) (l : Level) : (s.changeInterval i l).run = s.run :=
  by unfold State.changeInterval; split <;> simp
@[simp] theorem State.changeInterval_pending (i : Interval) (l : Level) : (s.changeInterval i l).pending = s.pending :=
  by unfold State.changeInterval; split <;> simp

/-! `State.boundaryEntry` -/

@[simp] theorem State.boundaryEntry_powered (t : Nat) : (s.boundaryEntry t).powered = s.powered :=
  by unfold State.boundaryEntry; split <;> simp
@[simp] theorem State.boundaryEntry_cfg (t : Nat) : (s.boundaryEntry t).cfg = s.cfg :=
  by unfold State.boundaryEntry; split <;> simp
@[simp] theorem State.boundaryEntry_store (t : Nat) : (s.boundaryEntry t).store = s.store :=
  by unfold State.boundaryEntry; split <;> simp
@[simp] theorem State.boundaryEntry_save (t : Nat) : (s.boundaryEntry t).save = s.save :=
  by unfold State.boundaryEntry; split <;> simp
@[simp] theorem State.boundaryEntry_retainedMark (t : Nat) : (s.boundaryEntry t).retainedMark = s.retainedMark :=
  by unfold State.boundaryEntry; split <;> simp
@[simp] theorem State.boundaryEntry_clock (t : Nat) : (s.boundaryEntry t).clock = s.clock :=
  by unfold State.boundaryEntry; split <;> simp
@[simp] theorem State.boundaryEntry_sensing (t : Nat) : (s.boundaryEntry t).sensing = s.sensing :=
  by unfold State.boundaryEntry; split <;> simp
@[simp] theorem State.boundaryEntry_rating (t : Nat) : (s.boundaryEntry t).rating = s.rating :=
  by unfold State.boundaryEntry; split <;> simp
@[simp] theorem State.boundaryEntry_warning (t : Nat) : (s.boundaryEntry t).warning = s.warning :=
  by unfold State.boundaryEntry; split <;> simp
@[simp] theorem State.boundaryEntry_outputs (t : Nat) : (s.boundaryEntry t).outputs = s.outputs :=
  by unfold State.boundaryEntry; split <;> simp
@[simp] theorem State.boundaryEntry_cableway (t : Nat) : (s.boundaryEntry t).cableway = s.cableway :=
  by unfold State.boundaryEntry; split <;> simp
@[simp] theorem State.boundaryEntry_run (t : Nat) : (s.boundaryEntry t).run = s.run :=
  by unfold State.boundaryEntry; split <;> simp
@[simp] theorem State.boundaryEntry_pending (t : Nat) : (s.boundaryEntry t).pending = s.pending :=
  by unfold State.boundaryEntry; split <;> simp

/-! `State.entryLevel` -/

@[simp] theorem State.entryLevel_powered (l : Option Level) (time : Nat) : (s.entryLevel l time).powered = s.powered :=
  by unfold State.entryLevel; split <;> [skip; split] <;> simp
@[simp] theorem State.entryLevel_cfg (l : Option Level) (time : Nat) : (s.entryLevel l time).cfg = s.cfg :=
  by unfold State.entryLevel; split <;> [skip; split] <;> simp
@[simp] theorem State.entryLevel_store (l : Option Level) (time : Nat) : (s.entryLevel l time).store = s.store :=
  by unfold State.entryLevel; split <;> [skip; split] <;> simp
@[simp] theorem State.entryLevel_save (l : Option Level) (time : Nat) : (s.entryLevel l time).save = s.save :=
  by unfold State.entryLevel; split <;> [skip; split] <;> simp
@[simp] theorem State.entryLevel_retainedMark (l : Option Level) (time : Nat) : (s.entryLevel l time).retainedMark = s.retainedMark :=
  by unfold State.entryLevel; split <;> [skip; split] <;> simp
@[simp] theorem State.entryLevel_clock (l : Option Level) (time : Nat) : (s.entryLevel l time).clock = s.clock :=
  by unfold State.entryLevel; split <;> [skip; split] <;> simp
@[simp] theorem State.entryLevel_sensing (l : Option Level) (time : Nat) : (s.entryLevel l time).sensing = s.sensing :=
  by unfold State.entryLevel; split <;> [skip; split] <;> simp
@[simp] theorem State.entryLevel_log (l : Option Level) (time : Nat) : (s.entryLevel l time).log = s.log :=
  by unfold State.entryLevel; split <;> [skip; split] <;> simp
@[simp] theorem State.entryLevel_rating (l : Option Level) (time : Nat) : (s.entryLevel l time).rating = s.rating :=
  by unfold State.entryLevel; split <;> [skip; split] <;> simp
@[simp] theorem State.entryLevel_cableway (l : Option Level) (time : Nat) : (s.entryLevel l time).cableway = s.cableway :=
  by unfold State.entryLevel; split <;> [skip; split] <;> simp
@[simp] theorem State.entryLevel_run (l : Option Level) (time : Nat) : (s.entryLevel l time).run = s.run :=
  by unfold State.entryLevel; split <;> [skip; split] <;> simp
@[simp] theorem State.entryLevel_ports (l : Option Level) (time : Nat) : (s.entryLevel l time).ports = s.ports :=
  by unfold State.entryLevel; split <;> [skip; split] <;> simp
@[simp] theorem State.entryLevel_pending (l : Option Level) (time : Nat) : (s.entryLevel l time).pending = s.pending :=
  by unfold State.entryLevel; split <;> [skip; split] <;> simp

/-! `State.entryPatterns` -/

@[simp] theorem State.entryPatterns_powered (e : ActionEntry) : (s.entryPatterns e).powered = s.powered :=
  by simp [State.entryPatterns]
@[simp] theorem State.entryPatterns_cfg (e : ActionEntry) : (s.entryPatterns e).cfg = s.cfg := by simp [State.entryPatterns]
@[simp] theorem State.entryPatterns_store (e : ActionEntry) : (s.entryPatterns e).store = s.store :=
  by simp [State.entryPatterns]
@[simp] theorem State.entryPatterns_save (e : ActionEntry) : (s.entryPatterns e).save = s.save :=
  by simp [State.entryPatterns]
@[simp] theorem State.entryPatterns_retainedMark (e : ActionEntry) : (s.entryPatterns e).retainedMark = s.retainedMark :=
  by simp [State.entryPatterns]
@[simp] theorem State.entryPatterns_clock (e : ActionEntry) : (s.entryPatterns e).clock = s.clock :=
  by simp [State.entryPatterns]
@[simp] theorem State.entryPatterns_sensing (e : ActionEntry) : (s.entryPatterns e).sensing = s.sensing :=
  by simp [State.entryPatterns]
@[simp] theorem State.entryPatterns_log (e : ActionEntry) : (s.entryPatterns e).log = s.log := by simp [State.entryPatterns]
@[simp] theorem State.entryPatterns_rating (e : ActionEntry) : (s.entryPatterns e).rating = s.rating :=
  by simp [State.entryPatterns]
@[simp] theorem State.entryPatterns_warning (e : ActionEntry) : (s.entryPatterns e).warning = s.warning :=
  by simp [State.entryPatterns]
@[simp] theorem State.entryPatterns_cableway (e : ActionEntry) : (s.entryPatterns e).cableway = s.cableway :=
  by simp [State.entryPatterns]
@[simp] theorem State.entryPatterns_run (e : ActionEntry) : (s.entryPatterns e).run = s.run := by simp [State.entryPatterns]
@[simp] theorem State.entryPatterns_ports (e : ActionEntry) : (s.entryPatterns e).ports = s.ports :=
  by simp [State.entryPatterns]
@[simp] theorem State.entryPatterns_pending (e : ActionEntry) : (s.entryPatterns e).pending = s.pending :=
  by simp [State.entryPatterns]

/-! `State.entryInterval` -/

@[simp] theorem State.entryInterval_powered (i : Option Interval) : (s.entryInterval i).powered = s.powered :=
  by unfold State.entryInterval; split <;> simp
@[simp] theorem State.entryInterval_cfg (i : Option Interval) : (s.entryInterval i).cfg = s.cfg :=
  by unfold State.entryInterval; split <;> simp
@[simp] theorem State.entryInterval_store (i : Option Interval) : (s.entryInterval i).store = s.store :=
  by unfold State.entryInterval; split <;> simp
@[simp] theorem State.entryInterval_save (i : Option Interval) : (s.entryInterval i).save = s.save :=
  by unfold State.entryInterval; split <;> simp
@[simp] theorem State.entryInterval_retainedMark (i : Option Interval) : (s.entryInterval i).retainedMark = s.retainedMark :=
  by unfold State.entryInterval; split <;> simp
@[simp] theorem State.entryInterval_clock (i : Option Interval) : (s.entryInterval i).clock = s.clock :=
  by unfold State.entryInterval; split <;> simp
@[simp] theorem State.entryInterval_sensing (i : Option Interval) : (s.entryInterval i).sensing = s.sensing :=
  by unfold State.entryInterval; split <;> simp
@[simp] theorem State.entryInterval_rating (i : Option Interval) : (s.entryInterval i).rating = s.rating :=
  by unfold State.entryInterval; split <;> simp
@[simp] theorem State.entryInterval_warning (i : Option Interval) : (s.entryInterval i).warning = s.warning :=
  by unfold State.entryInterval; split <;> simp
@[simp] theorem State.entryInterval_outputs (i : Option Interval) : (s.entryInterval i).outputs = s.outputs :=
  by unfold State.entryInterval; split <;> simp
@[simp] theorem State.entryInterval_cableway (i : Option Interval) : (s.entryInterval i).cableway = s.cableway :=
  by unfold State.entryInterval; split <;> simp
@[simp] theorem State.entryInterval_run (i : Option Interval) : (s.entryInterval i).run = s.run :=
  by unfold State.entryInterval; split <;> simp
@[simp] theorem State.entryInterval_pending (i : Option Interval) : (s.entryInterval i).pending = s.pending :=
  by unfold State.entryInterval; split <;> simp

/-! `State.entryNotice` -/

@[simp] theorem State.entryNotice_powered (b : Bool) (c : TriggerClass) (l : Level) (time : Nat) : (s.entryNotice b c l time).powered = s.powered :=
  by unfold State.entryNotice; split <;> simp
@[simp] theorem State.entryNotice_cfg (b : Bool) (c : TriggerClass) (l : Level) (time : Nat) : (s.entryNotice b c l time).cfg = s.cfg :=
  by unfold State.entryNotice; split <;> simp
@[simp] theorem State.entryNotice_store (b : Bool) (c : TriggerClass) (l : Level) (time : Nat) : (s.entryNotice b c l time).store = s.store :=
  by unfold State.entryNotice; split <;> simp
@[simp] theorem State.entryNotice_save (b : Bool) (c : TriggerClass) (l : Level) (time : Nat) : (s.entryNotice b c l time).save = s.save :=
  by unfold State.entryNotice; split <;> simp
@[simp] theorem State.entryNotice_retainedMark (b : Bool) (c : TriggerClass) (l : Level) (time : Nat) : (s.entryNotice b c l time).retainedMark = s.retainedMark :=
  by unfold State.entryNotice; split <;> simp
@[simp] theorem State.entryNotice_clock (b : Bool) (c : TriggerClass) (l : Level) (time : Nat) : (s.entryNotice b c l time).clock = s.clock :=
  by unfold State.entryNotice; split <;> simp
@[simp] theorem State.entryNotice_sensing (b : Bool) (c : TriggerClass) (l : Level) (time : Nat) : (s.entryNotice b c l time).sensing = s.sensing :=
  by unfold State.entryNotice; split <;> simp
@[simp] theorem State.entryNotice_log (b : Bool) (c : TriggerClass) (l : Level) (time : Nat) : (s.entryNotice b c l time).log = s.log :=
  by unfold State.entryNotice; split <;> simp
@[simp] theorem State.entryNotice_rating (b : Bool) (c : TriggerClass) (l : Level) (time : Nat) : (s.entryNotice b c l time).rating = s.rating :=
  by unfold State.entryNotice; split <;> simp
@[simp] theorem State.entryNotice_warning (b : Bool) (c : TriggerClass) (l : Level) (time : Nat) : (s.entryNotice b c l time).warning = s.warning :=
  by unfold State.entryNotice; split <;> simp
@[simp] theorem State.entryNotice_outputs (b : Bool) (c : TriggerClass) (l : Level) (time : Nat) : (s.entryNotice b c l time).outputs = s.outputs :=
  by unfold State.entryNotice; split <;> simp
@[simp] theorem State.entryNotice_cableway (b : Bool) (c : TriggerClass) (l : Level) (time : Nat) : (s.entryNotice b c l time).cableway = s.cableway :=
  by unfold State.entryNotice; split <;> simp
@[simp] theorem State.entryNotice_run (b : Bool) (c : TriggerClass) (l : Level) (time : Nat) : (s.entryNotice b c l time).run = s.run :=
  by unfold State.entryNotice; split <;> simp
@[simp] theorem State.entryNotice_pending (b : Bool) (c : TriggerClass) (l : Level) (time : Nat) : (s.entryNotice b c l time).pending = s.pending :=
  by unfold State.entryNotice; split <;> simp

/-! `State.openAck` -/

@[simp] theorem State.openAck_powered (time : Nat) : (s.openAck time).powered = s.powered := by simp [State.openAck]
@[simp] theorem State.openAck_cfg (time : Nat) : (s.openAck time).cfg = s.cfg := by simp [State.openAck]
@[simp] theorem State.openAck_store (time : Nat) : (s.openAck time).store = s.store := by simp [State.openAck]
@[simp] theorem State.openAck_save (time : Nat) : (s.openAck time).save = s.save := by simp [State.openAck]
@[simp] theorem State.openAck_retainedMark (time : Nat) : (s.openAck time).retainedMark = s.retainedMark :=
  by simp [State.openAck]
@[simp] theorem State.openAck_clock (time : Nat) : (s.openAck time).clock = s.clock := by simp [State.openAck]
@[simp] theorem State.openAck_sensing (time : Nat) : (s.openAck time).sensing = s.sensing := by simp [State.openAck]
@[simp] theorem State.openAck_log (time : Nat) : (s.openAck time).log = s.log := by simp [State.openAck]
@[simp] theorem State.openAck_rating (time : Nat) : (s.openAck time).rating = s.rating := by simp [State.openAck]
@[simp] theorem State.openAck_outputs (time : Nat) : (s.openAck time).outputs = s.outputs := by simp [State.openAck]
@[simp] theorem State.openAck_cableway (time : Nat) : (s.openAck time).cableway = s.cableway := by simp [State.openAck]
@[simp] theorem State.openAck_run (time : Nat) : (s.openAck time).run = s.run := by simp [State.openAck]
@[simp] theorem State.openAck_pending (time : Nat) : (s.openAck time).pending = s.pending := by simp [State.openAck]

/-! `State.withdrawAck` -/

@[simp] theorem State.withdrawAck_powered (time : Nat) : (s.withdrawAck time).powered = s.powered :=
  by unfold State.withdrawAck; split <;> simp
@[simp] theorem State.withdrawAck_cfg (time : Nat) : (s.withdrawAck time).cfg = s.cfg :=
  by unfold State.withdrawAck; split <;> simp
@[simp] theorem State.withdrawAck_store (time : Nat) : (s.withdrawAck time).store = s.store :=
  by unfold State.withdrawAck; split <;> simp
@[simp] theorem State.withdrawAck_save (time : Nat) : (s.withdrawAck time).save = s.save :=
  by unfold State.withdrawAck; split <;> simp
@[simp] theorem State.withdrawAck_retainedMark (time : Nat) : (s.withdrawAck time).retainedMark = s.retainedMark :=
  by unfold State.withdrawAck; split <;> simp
@[simp] theorem State.withdrawAck_clock (time : Nat) : (s.withdrawAck time).clock = s.clock :=
  by unfold State.withdrawAck; split <;> simp
@[simp] theorem State.withdrawAck_sensing (time : Nat) : (s.withdrawAck time).sensing = s.sensing :=
  by unfold State.withdrawAck; split <;> simp
@[simp] theorem State.withdrawAck_log (time : Nat) : (s.withdrawAck time).log = s.log :=
  by unfold State.withdrawAck; split <;> simp
@[simp] theorem State.withdrawAck_rating (time : Nat) : (s.withdrawAck time).rating = s.rating :=
  by unfold State.withdrawAck; split <;> simp
@[simp] theorem State.withdrawAck_outputs (time : Nat) : (s.withdrawAck time).outputs = s.outputs :=
  by unfold State.withdrawAck; split <;> simp
@[simp] theorem State.withdrawAck_cableway (time : Nat) : (s.withdrawAck time).cableway = s.cableway :=
  by unfold State.withdrawAck; split <;> simp
@[simp] theorem State.withdrawAck_run (time : Nat) : (s.withdrawAck time).run = s.run :=
  by unfold State.withdrawAck; split <;> simp
@[simp] theorem State.withdrawAck_pending (time : Nat) : (s.withdrawAck time).pending = s.pending :=
  by unfold State.withdrawAck; split <;> simp

/-! `State.entryAck` -/

@[simp] theorem State.entryAck_powered (r c : Bool) (time : Nat) : (s.entryAck r c time).powered = s.powered :=
  by unfold State.entryAck; split <;> [skip; split] <;> simp
@[simp] theorem State.entryAck_cfg (r c : Bool) (time : Nat) : (s.entryAck r c time).cfg = s.cfg :=
  by unfold State.entryAck; split <;> [skip; split] <;> simp
@[simp] theorem State.entryAck_store (r c : Bool) (time : Nat) : (s.entryAck r c time).store = s.store :=
  by unfold State.entryAck; split <;> [skip; split] <;> simp
@[simp] theorem State.entryAck_save (r c : Bool) (time : Nat) : (s.entryAck r c time).save = s.save :=
  by unfold State.entryAck; split <;> [skip; split] <;> simp
@[simp] theorem State.entryAck_retainedMark (r c : Bool) (time : Nat) : (s.entryAck r c time).retainedMark = s.retainedMark :=
  by unfold State.entryAck; split <;> [skip; split] <;> simp
@[simp] theorem State.entryAck_clock (r c : Bool) (time : Nat) : (s.entryAck r c time).clock = s.clock :=
  by unfold State.entryAck; split <;> [skip; split] <;> simp
@[simp] theorem State.entryAck_sensing (r c : Bool) (time : Nat) : (s.entryAck r c time).sensing = s.sensing :=
  by unfold State.entryAck; split <;> [skip; split] <;> simp
@[simp] theorem State.entryAck_log (r c : Bool) (time : Nat) : (s.entryAck r c time).log = s.log :=
  by unfold State.entryAck; split <;> [skip; split] <;> simp
@[simp] theorem State.entryAck_rating (r c : Bool) (time : Nat) : (s.entryAck r c time).rating = s.rating :=
  by unfold State.entryAck; split <;> [skip; split] <;> simp
@[simp] theorem State.entryAck_outputs (r c : Bool) (time : Nat) : (s.entryAck r c time).outputs = s.outputs :=
  by unfold State.entryAck; split <;> [skip; split] <;> simp
@[simp] theorem State.entryAck_cableway (r c : Bool) (time : Nat) : (s.entryAck r c time).cableway = s.cableway :=
  by unfold State.entryAck; split <;> [skip; split] <;> simp
@[simp] theorem State.entryAck_run (r c : Bool) (time : Nat) : (s.entryAck r c time).run = s.run :=
  by unfold State.entryAck; split <;> [skip; split] <;> simp
@[simp] theorem State.entryAck_pending (r c : Bool) (time : Nat) : (s.entryAck r c time).pending = s.pending :=
  by unfold State.entryAck; split <;> [skip; split] <;> simp

/-! `State.entryRetrieve` -/

@[simp] theorem State.entryRetrieve_powered (b : Bool) (time : Nat) : (s.entryRetrieve b time).powered = s.powered :=
  by unfold State.entryRetrieve; split <;> simp
@[simp] theorem State.entryRetrieve_cfg (b : Bool) (time : Nat) : (s.entryRetrieve b time).cfg = s.cfg :=
  by unfold State.entryRetrieve; split <;> simp
@[simp] theorem State.entryRetrieve_store (b : Bool) (time : Nat) : (s.entryRetrieve b time).store = s.store :=
  by unfold State.entryRetrieve; split <;> simp
@[simp] theorem State.entryRetrieve_save (b : Bool) (time : Nat) : (s.entryRetrieve b time).save = s.save :=
  by unfold State.entryRetrieve; split <;> simp
@[simp] theorem State.entryRetrieve_retainedMark (b : Bool) (time : Nat) : (s.entryRetrieve b time).retainedMark = s.retainedMark :=
  by unfold State.entryRetrieve; split <;> simp
@[simp] theorem State.entryRetrieve_clock (b : Bool) (time : Nat) : (s.entryRetrieve b time).clock = s.clock :=
  by unfold State.entryRetrieve; split <;> simp
@[simp] theorem State.entryRetrieve_sensing (b : Bool) (time : Nat) : (s.entryRetrieve b time).sensing = s.sensing :=
  by unfold State.entryRetrieve; split <;> simp
@[simp] theorem State.entryRetrieve_log (b : Bool) (time : Nat) : (s.entryRetrieve b time).log = s.log :=
  by unfold State.entryRetrieve; split <;> simp
@[simp] theorem State.entryRetrieve_rating (b : Bool) (time : Nat) : (s.entryRetrieve b time).rating = s.rating :=
  by unfold State.entryRetrieve; split <;> simp
@[simp] theorem State.entryRetrieve_warning (b : Bool) (time : Nat) : (s.entryRetrieve b time).warning = s.warning :=
  by unfold State.entryRetrieve; split <;> simp
@[simp] theorem State.entryRetrieve_pending (b : Bool) (time : Nat) : (s.entryRetrieve b time).pending = s.pending :=
  by unfold State.entryRetrieve; split <;> simp

/-! `State.takeEntry` -/

@[simp] theorem State.takeEntry_powered (c : TriggerClass) (time : Nat) : (s.takeEntry c time).powered = s.powered :=
  by simp [State.takeEntry]
@[simp] theorem State.takeEntry_cfg (c : TriggerClass) (time : Nat) : (s.takeEntry c time).cfg = s.cfg :=
  by simp [State.takeEntry]
@[simp] theorem State.takeEntry_store (c : TriggerClass) (time : Nat) : (s.takeEntry c time).store = s.store :=
  by simp [State.takeEntry]
@[simp] theorem State.takeEntry_save (c : TriggerClass) (time : Nat) : (s.takeEntry c time).save = s.save :=
  by simp [State.takeEntry]
@[simp] theorem State.takeEntry_retainedMark (c : TriggerClass) (time : Nat) : (s.takeEntry c time).retainedMark = s.retainedMark :=
  by simp [State.takeEntry]
@[simp] theorem State.takeEntry_clock (c : TriggerClass) (time : Nat) : (s.takeEntry c time).clock = s.clock :=
  by simp [State.takeEntry]
@[simp] theorem State.takeEntry_sensing (c : TriggerClass) (time : Nat) : (s.takeEntry c time).sensing = s.sensing :=
  by simp [State.takeEntry]
@[simp] theorem State.takeEntry_rating (c : TriggerClass) (time : Nat) : (s.takeEntry c time).rating = s.rating :=
  by simp [State.takeEntry]
@[simp] theorem State.takeEntry_pending (c : TriggerClass) (time : Nat) : (s.takeEntry c time).pending = s.pending :=
  by simp [State.takeEntry]

/-! `State.idleExpiry` -/

@[simp] theorem State.idleExpiry_powered : (s.idleExpiry).powered = s.powered := by unfold State.idleExpiry; split <;> rfl
@[simp] theorem State.idleExpiry_cfg : (s.idleExpiry).cfg = s.cfg := by unfold State.idleExpiry; split <;> rfl
@[simp] theorem State.idleExpiry_store : (s.idleExpiry).store = s.store := by unfold State.idleExpiry; split <;> rfl
@[simp] theorem State.idleExpiry_save : (s.idleExpiry).save = s.save := by unfold State.idleExpiry; split <;> rfl
@[simp] theorem State.idleExpiry_retainedMark : (s.idleExpiry).retainedMark = s.retainedMark :=
  by unfold State.idleExpiry; split <;> rfl
@[simp] theorem State.idleExpiry_clock : (s.idleExpiry).clock = s.clock := by unfold State.idleExpiry; split <;> rfl
@[simp] theorem State.idleExpiry_sensing : (s.idleExpiry).sensing = s.sensing := by unfold State.idleExpiry; split <;> rfl
@[simp] theorem State.idleExpiry_log : (s.idleExpiry).log = s.log := by unfold State.idleExpiry; split <;> rfl
@[simp] theorem State.idleExpiry_warning : (s.idleExpiry).warning = s.warning := by unfold State.idleExpiry; split <;> rfl
@[simp] theorem State.idleExpiry_outputs : (s.idleExpiry).outputs = s.outputs := by unfold State.idleExpiry; split <;> rfl
@[simp] theorem State.idleExpiry_cableway : (s.idleExpiry).cableway = s.cableway := by unfold State.idleExpiry; split <;> rfl
@[simp] theorem State.idleExpiry_run : (s.idleExpiry).run = s.run := by unfold State.idleExpiry; split <;> rfl
@[simp] theorem State.idleExpiry_ports : (s.idleExpiry).ports = s.ports := by unfold State.idleExpiry; split <;> rfl
@[simp] theorem State.idleExpiry_pending : (s.idleExpiry).pending = s.pending := by unfold State.idleExpiry; split <;> rfl

/-! `State.deadlineExpiry` -/

@[simp] theorem State.deadlineExpiry_powered : (s.deadlineExpiry).powered = s.powered :=
  by unfold State.deadlineExpiry; split <;> [skip; split] <;> simp
@[simp] theorem State.deadlineExpiry_cfg : (s.deadlineExpiry).cfg = s.cfg :=
  by unfold State.deadlineExpiry; split <;> [skip; split] <;> simp
@[simp] theorem State.deadlineExpiry_store : (s.deadlineExpiry).store = s.store :=
  by unfold State.deadlineExpiry; split <;> [skip; split] <;> simp
@[simp] theorem State.deadlineExpiry_save : (s.deadlineExpiry).save = s.save :=
  by unfold State.deadlineExpiry; split <;> [skip; split] <;> simp
@[simp] theorem State.deadlineExpiry_retainedMark : (s.deadlineExpiry).retainedMark = s.retainedMark :=
  by unfold State.deadlineExpiry; split <;> [skip; split] <;> simp
@[simp] theorem State.deadlineExpiry_clock : (s.deadlineExpiry).clock = s.clock :=
  by unfold State.deadlineExpiry; split <;> [skip; split] <;> simp
@[simp] theorem State.deadlineExpiry_sensing : (s.deadlineExpiry).sensing = s.sensing :=
  by unfold State.deadlineExpiry; split <;> [skip; split] <;> simp
@[simp] theorem State.deadlineExpiry_log : (s.deadlineExpiry).log = s.log :=
  by unfold State.deadlineExpiry; split <;> [skip; split] <;> simp
@[simp] theorem State.deadlineExpiry_rating : (s.deadlineExpiry).rating = s.rating :=
  by unfold State.deadlineExpiry; split <;> [skip; split] <;> simp
@[simp] theorem State.deadlineExpiry_cableway : (s.deadlineExpiry).cableway = s.cableway :=
  by unfold State.deadlineExpiry; split <;> [skip; split] <;> simp
@[simp] theorem State.deadlineExpiry_run : (s.deadlineExpiry).run = s.run :=
  by unfold State.deadlineExpiry; split <;> [skip; split] <;> simp
@[simp] theorem State.deadlineExpiry_pending : (s.deadlineExpiry).pending = s.pending :=
  by unfold State.deadlineExpiry; split <;> [skip; split] <;> simp

/-! `State.force` -/

@[simp] theorem State.force_powered (p : Port) (l : Level) : (s.force p l).powered = s.powered := by simp [State.force]
@[simp] theorem State.force_cfg (p : Port) (l : Level) : (s.force p l).cfg = s.cfg := by simp [State.force]
@[simp] theorem State.force_store (p : Port) (l : Level) : (s.force p l).store = s.store := by simp [State.force]
@[simp] theorem State.force_save (p : Port) (l : Level) : (s.force p l).save = s.save := by simp [State.force]
@[simp] theorem State.force_retainedMark (p : Port) (l : Level) : (s.force p l).retainedMark = s.retainedMark :=
  by simp [State.force]
@[simp] theorem State.force_clock (p : Port) (l : Level) : (s.force p l).clock = s.clock := by simp [State.force]
@[simp] theorem State.force_sensing (p : Port) (l : Level) : (s.force p l).sensing = s.sensing := by simp [State.force]
@[simp] theorem State.force_log (p : Port) (l : Level) : (s.force p l).log = s.log := by simp [State.force]
@[simp] theorem State.force_rating (p : Port) (l : Level) : (s.force p l).rating = s.rating := by simp [State.force]
@[simp] theorem State.force_cableway (p : Port) (l : Level) : (s.force p l).cableway = s.cableway := by simp [State.force]
@[simp] theorem State.force_run (p : Port) (l : Level) : (s.force p l).run = s.run := by simp [State.force]
@[simp] theorem State.force_pending (p : Port) (l : Level) : (s.force p l).pending = s.pending := by simp [State.force]

/-! `State.countAll` -/

@[simp] theorem State.countAll_powered : (s.countAll).powered = s.powered := rfl
@[simp] theorem State.countAll_cfg : (s.countAll).cfg = s.cfg := rfl
@[simp] theorem State.countAll_store : (s.countAll).store = s.store := rfl
@[simp] theorem State.countAll_save : (s.countAll).save = s.save := rfl
@[simp] theorem State.countAll_retainedMark : (s.countAll).retainedMark = s.retainedMark := rfl
@[simp] theorem State.countAll_sensing : (s.countAll).sensing = s.sensing := rfl
@[simp] theorem State.countAll_log : (s.countAll).log = s.log := rfl
@[simp] theorem State.countAll_outputs : (s.countAll).outputs = s.outputs := rfl
@[simp] theorem State.countAll_cableway : (s.countAll).cableway = s.cableway := rfl
@[simp] theorem State.countAll_ports : (s.countAll).ports = s.ports := rfl
@[simp] theorem State.countAll_pending : (s.countAll).pending = s.pending := rfl

/-! `State.takeSample` -/

@[simp] theorem State.takeSample_powered : (s.takeSample).powered = s.powered := rfl
@[simp] theorem State.takeSample_cfg : (s.takeSample).cfg = s.cfg := rfl
@[simp] theorem State.takeSample_store : (s.takeSample).store = s.store := rfl
@[simp] theorem State.takeSample_save : (s.takeSample).save = s.save := rfl
@[simp] theorem State.takeSample_retainedMark : (s.takeSample).retainedMark = s.retainedMark := rfl
@[simp] theorem State.takeSample_clock : (s.takeSample).clock = s.clock := rfl
@[simp] theorem State.takeSample_sensing : (s.takeSample).sensing = s.sensing := rfl
@[simp] theorem State.takeSample_rating : (s.takeSample).rating = s.rating := rfl
@[simp] theorem State.takeSample_warning : (s.takeSample).warning = s.warning := rfl
@[simp] theorem State.takeSample_outputs : (s.takeSample).outputs = s.outputs := rfl
@[simp] theorem State.takeSample_cableway : (s.takeSample).cableway = s.cableway := rfl
@[simp] theorem State.takeSample_run : (s.takeSample).run = s.run := rfl
@[simp] theorem State.takeSample_ports : (s.takeSample).ports = s.ports := rfl
@[simp] theorem State.takeSample_pending : (s.takeSample).pending = s.pending := rfl

/-! `State.resetClock` -/

@[simp] theorem State.resetClock_powered (t : Nat) : (s.resetClock t).powered = s.powered :=
  by unfold State.resetClock; split <;> simp
@[simp] theorem State.resetClock_cfg (t : Nat) : (s.resetClock t).cfg = s.cfg := by unfold State.resetClock; split <;> simp
@[simp] theorem State.resetClock_store (t : Nat) : (s.resetClock t).store = s.store :=
  by unfold State.resetClock; split <;> simp
@[simp] theorem State.resetClock_save (t : Nat) : (s.resetClock t).save = s.save :=
  by unfold State.resetClock; split <;> simp
@[simp] theorem State.resetClock_retainedMark (t : Nat) : (s.resetClock t).retainedMark = s.retainedMark :=
  by unfold State.resetClock; split <;> simp
@[simp] theorem State.resetClock_sensing (t : Nat) : (s.resetClock t).sensing = s.sensing :=
  by unfold State.resetClock; split <;> simp
@[simp] theorem State.resetClock_rating (t : Nat) : (s.resetClock t).rating = s.rating :=
  by unfold State.resetClock; split <;> simp
@[simp] theorem State.resetClock_warning (t : Nat) : (s.resetClock t).warning = s.warning :=
  by unfold State.resetClock; split <;> simp
@[simp] theorem State.resetClock_outputs (t : Nat) : (s.resetClock t).outputs = s.outputs :=
  by unfold State.resetClock; split <;> simp
@[simp] theorem State.resetClock_cableway (t : Nat) : (s.resetClock t).cableway = s.cableway :=
  by unfold State.resetClock; split <;> simp
@[simp] theorem State.resetClock_run (t : Nat) : (s.resetClock t).run = s.run := by unfold State.resetClock; split <;> simp
@[simp] theorem State.resetClock_pending (t : Nat) : (s.resetClock t).pending = s.pending :=
  by unfold State.resetClock; split <;> simp

/-! `State.commitRating` -/

@[simp] theorem State.commitRating_powered (p : Port) : (s.commitRating p).powered = s.powered :=
  by simp [State.commitRating]
@[simp] theorem State.commitRating_store (p : Port) : (s.commitRating p).store = s.store := by simp [State.commitRating]
@[simp] theorem State.commitRating_save (p : Port) : (s.commitRating p).save = s.save := by simp [State.commitRating]
@[simp] theorem State.commitRating_retainedMark (p : Port) : (s.commitRating p).retainedMark = s.retainedMark :=
  by simp [State.commitRating]
@[simp] theorem State.commitRating_clock (p : Port) : (s.commitRating p).clock = s.clock := by simp [State.commitRating]
@[simp] theorem State.commitRating_sensing (p : Port) : (s.commitRating p).sensing = s.sensing :=
  by simp [State.commitRating]
@[simp] theorem State.commitRating_log (p : Port) : (s.commitRating p).log = s.log := by simp [State.commitRating]
@[simp] theorem State.commitRating_warning (p : Port) : (s.commitRating p).warning = s.warning :=
  by simp [State.commitRating]
@[simp] theorem State.commitRating_outputs (p : Port) : (s.commitRating p).outputs = s.outputs :=
  by simp [State.commitRating]
@[simp] theorem State.commitRating_cableway (p : Port) : (s.commitRating p).cableway = s.cableway :=
  by simp [State.commitRating]
@[simp] theorem State.commitRating_run (p : Port) : (s.commitRating p).run = s.run := by simp [State.commitRating]
@[simp] theorem State.commitRating_pending (p : Port) : (s.commitRating p).pending = s.pending :=
  by simp [State.commitRating]

/-! `State.setSensingCfg` -/

@[simp] theorem State.setSensingCfg_powered (c : SensingSettings) : (s.setSensingCfg c).powered = s.powered := rfl
@[simp] theorem State.setSensingCfg_store (c : SensingSettings) : (s.setSensingCfg c).store = s.store := rfl
@[simp] theorem State.setSensingCfg_save (c : SensingSettings) : (s.setSensingCfg c).save = s.save := rfl
@[simp] theorem State.setSensingCfg_retainedMark (c : SensingSettings) : (s.setSensingCfg c).retainedMark = s.retainedMark :=
  rfl
@[simp] theorem State.setSensingCfg_clock (c : SensingSettings) : (s.setSensingCfg c).clock = s.clock := rfl
@[simp] theorem State.setSensingCfg_sensing (c : SensingSettings) : (s.setSensingCfg c).sensing = s.sensing := rfl
@[simp] theorem State.setSensingCfg_log (c : SensingSettings) : (s.setSensingCfg c).log = s.log := rfl
@[simp] theorem State.setSensingCfg_rating (c : SensingSettings) : (s.setSensingCfg c).rating = s.rating := rfl
@[simp] theorem State.setSensingCfg_warning (c : SensingSettings) : (s.setSensingCfg c).warning = s.warning := rfl
@[simp] theorem State.setSensingCfg_outputs (c : SensingSettings) : (s.setSensingCfg c).outputs = s.outputs := rfl
@[simp] theorem State.setSensingCfg_cableway (c : SensingSettings) : (s.setSensingCfg c).cableway = s.cableway := rfl
@[simp] theorem State.setSensingCfg_run (c : SensingSettings) : (s.setSensingCfg c).run = s.run := rfl
@[simp] theorem State.setSensingCfg_ports (c : SensingSettings) : (s.setSensingCfg c).ports = s.ports := rfl
@[simp] theorem State.setSensingCfg_pending (c : SensingSettings) : (s.setSensingCfg c).pending = s.pending := rfl

/-! `State.setEntry` -/

@[simp] theorem State.setEntry_powered (l : Level) (c : TriggerClass) (e : ActionEntry) : (s.setEntry l c e).powered = s.powered :=
  rfl
@[simp] theorem State.setEntry_store (l : Level) (c : TriggerClass) (e : ActionEntry) : (s.setEntry l c e).store = s.store :=
  rfl
@[simp] theorem State.setEntry_save (l : Level) (c : TriggerClass) (e : ActionEntry) : (s.setEntry l c e).save = s.save :=
  rfl
@[simp] theorem State.setEntry_retainedMark (l : Level) (c : TriggerClass) (e : ActionEntry) : (s.setEntry l c e).retainedMark = s.retainedMark :=
  rfl
@[simp] theorem State.setEntry_clock (l : Level) (c : TriggerClass) (e : ActionEntry) : (s.setEntry l c e).clock = s.clock :=
  rfl
@[simp] theorem State.setEntry_sensing (l : Level) (c : TriggerClass) (e : ActionEntry) : (s.setEntry l c e).sensing = s.sensing :=
  rfl
@[simp] theorem State.setEntry_log (l : Level) (c : TriggerClass) (e : ActionEntry) : (s.setEntry l c e).log = s.log := rfl
@[simp] theorem State.setEntry_rating (l : Level) (c : TriggerClass) (e : ActionEntry) : (s.setEntry l c e).rating = s.rating :=
  rfl
@[simp] theorem State.setEntry_warning (l : Level) (c : TriggerClass) (e : ActionEntry) : (s.setEntry l c e).warning = s.warning :=
  rfl
@[simp] theorem State.setEntry_outputs (l : Level) (c : TriggerClass) (e : ActionEntry) : (s.setEntry l c e).outputs = s.outputs :=
  rfl
@[simp] theorem State.setEntry_cableway (l : Level) (c : TriggerClass) (e : ActionEntry) : (s.setEntry l c e).cableway = s.cableway :=
  rfl
@[simp] theorem State.setEntry_run (l : Level) (c : TriggerClass) (e : ActionEntry) : (s.setEntry l c e).run = s.run := rfl
@[simp] theorem State.setEntry_ports (l : Level) (c : TriggerClass) (e : ActionEntry) : (s.setEntry l c e).ports = s.ports :=
  rfl
@[simp] theorem State.setEntry_pending (l : Level) (c : TriggerClass) (e : ActionEntry) : (s.setEntry l c e).pending = s.pending :=
  rfl

/-! `State.reloadIdle` -/

@[simp] theorem State.reloadIdle_powered : (s.reloadIdle).powered = s.powered := rfl
@[simp] theorem State.reloadIdle_cfg : (s.reloadIdle).cfg = s.cfg := rfl
@[simp] theorem State.reloadIdle_store : (s.reloadIdle).store = s.store := rfl
@[simp] theorem State.reloadIdle_save : (s.reloadIdle).save = s.save := rfl
@[simp] theorem State.reloadIdle_retainedMark : (s.reloadIdle).retainedMark = s.retainedMark := rfl
@[simp] theorem State.reloadIdle_clock : (s.reloadIdle).clock = s.clock := rfl
@[simp] theorem State.reloadIdle_sensing : (s.reloadIdle).sensing = s.sensing := rfl
@[simp] theorem State.reloadIdle_log : (s.reloadIdle).log = s.log := rfl
@[simp] theorem State.reloadIdle_warning : (s.reloadIdle).warning = s.warning := rfl
@[simp] theorem State.reloadIdle_outputs : (s.reloadIdle).outputs = s.outputs := rfl
@[simp] theorem State.reloadIdle_cableway : (s.reloadIdle).cableway = s.cableway := rfl
@[simp] theorem State.reloadIdle_run : (s.reloadIdle).run = s.run := rfl
@[simp] theorem State.reloadIdle_ports : (s.reloadIdle).ports = s.ports := rfl
@[simp] theorem State.reloadIdle_pending : (s.reloadIdle).pending = s.pending := rfl

end Sys2Proof.Machine
end

