-- ==== Sys2Proof/Laws/Ops.lean ====
section
/-! SUPPORT. For each shared operation, one lemma that says everything it can do. -/

namespace Sys2Proof.Machine

open Sys2Proof

/-! ### Clamping and counting -/

theorem clamp_bounds {lo hi : Int} (x : Int) (h : lo ≤ hi) : lo ≤ clamp lo hi x ∧ clamp lo hi x ≤ hi := by
  unfold clamp; omega

theorem clamp_eq_self {lo hi x : Int} (h1 : lo ≤ x) (h2 : x ≤ hi) : clamp lo hi x = x := by unfold clamp; omega

theorem clampMarked_eq {lo hi x : Int} (h1 : lo ≤ x) (h2 : x ≤ hi) : clampMarked lo hi x = ⟨x, false⟩ := by
  unfold clampMarked
  rw [clamp_eq_self h1 h2]
  simp
  omega

theorem raiseTo_le (limit count n : Nat) : raiseTo limit count n ≤ limit := Nat.min_le_left _ _

/-! ### Notices -/

theorem markNewest_length (q : List Notice) : (markNewest q).length = q.length := by
  induction q with
  | nil => rfl
  | cons n q ih => cases q with
    | nil => rfl
    | cons m rest => simpa [markNewest] using ih

/-- A posting that the mask admits joins the newest end of a queue that has room; a full queue keeps its length. -/
theorem enqueue_cases (q : List Notice) (n : Notice) :
    (q.length < 16 ∧ enqueue q n = q ++ [n]) ∨ (16 ≤ q.length ∧ enqueue q n = markNewest q) := by
  unfold enqueue Config.queueSize
  split
  · exact .inl ⟨by assumption, rfl⟩
  · exact .inr ⟨by omega, rfl⟩

theorem enqueue_length_le {q : List Notice} (n : Notice) (h : q.length ≤ 16) : (enqueue q n).length ≤ 16 := by
  rcases enqueue_cases q n with ⟨h', e⟩ | ⟨_, e⟩
  · rw [e, List.length_append]; simpa using h'
  · rw [e, markNewest_length]; exact h

/-- What a port is after a posting it receives. -/
def PortState.received (q : PortState) (mask : BitVec 18) (n : Notice) : PortState :=
  if admits mask n.kind then { q with queue := enqueue q.queue n } else q

/-- A posting to one port is received by that port alone. -/
theorem State.port_postTo (s : State) (p q : Port) (n : Notice) :
    (s.postTo p n).port q = if q = p then (s.port q).received (s.cfg.masks.get q) n else s.port q := by
  unfold State.postTo PortState.received
  by_cases h : q = p
  · subst h; split <;> simp_all
  · split <;> simp [h]

/-- A posting to every port is received by every port. -/
theorem State.port_postAll (s : State) (n : Notice) (q : Port) :
    (s.postAll n).port q = (s.port q).received (s.cfg.masks.get q) n := by
  cases q <;> simp [State.postAll, State.port_postTo]

theorem PortState.received_fields (q : PortState) (mask : BitVec 18) (n : Notice) :
    (q.received mask n).exchange = q.exchange ∧ (q.received mask n).slot = q.slot ∧
      (q.received mask n).inProgress = q.inProgress ∧ (q.received mask n).lastRequest = q.lastRequest := by
  unfold PortState.received; split <;> simp

/-! ### Requests -/

/-- A request that is not taken changes nothing (R181, log 9). -/
theorem State.takeRequest_of_not_takes {s : State} {p : Port} (h : ¬ s.takes p) (code : Byte) (long : Bool) (f : State → Answer) :
    s.takeRequest p code long f = s := by
  unfold State.takeRequest; exact if_neg h

/-- A request that is taken: its block acts after the last-request time is set, and its response is placed (R180). -/
theorem State.takeRequest_of_takes {s : State} {p : Port} (h : s.takes p) (code : Byte) (long : Bool) (f : State → Answer) :
    s.takeRequest p code long f = State.answer p code long (f (s.stamp p)) := by
  unfold State.takeRequest; exact if_pos h

theorem State.answer_reply (p : Port) (code : Byte) (long : Bool) (s : State) (st : Status) (b : Body) :
    State.answer p code long (reply s st b) = s.place p ⟨st, false, long, code, b⟩ := rfl

theorem State.answer_refuse (p : Port) (code : Byte) (long : Bool) (s : State) (st : Status) :
    State.answer p code long (refuse s st) = s.place p ⟨st, false, long, code, .empty⟩ := rfl

@[simp] theorem unlessSaving_of_idle {s : State} (h : s.save = none) (f : State → Answer) : unlessSaving f s = f s := by
  simp [unlessSaving, State.saving, h]

@[simp] theorem unlessSaving_of_saving {s : State} (h : s.save ≠ none) (f : State → Answer) :
    unlessSaving f s = refuse s .busy := by
  cases hs : s.save with
  | none => exact absurd hs h
  | some x => simp [unlessSaving, State.saving, hs]

/-- Every request command is the taking of its request (R180). -/
theorem exec_of_request {i : Instr} {r : Request} (h : requestOf i = some r) (s : State) :
    exec i s = .next (s.takeRequest r.port r.code false (r.act false)) := by
  cases i <;> first | (cases h; rfl) | exact absurd h (by simp [requestOf])

/-- The part after an exchange end, by the frame that was going out and what its bytes examine to (R178). -/
theorem exchangeEnd_cases (p : Port) (bytes : List Byte) (s : State) :
    ((s.port p).exchange = none ∧ exchangeEnd p bytes s = s) ∨
    ∃ x, (s.port p).exchange = some x ∧
      ((∃ e, x.outgoing = .pending e ∧
          exchangeEnd p bytes s = s.setPort p ((s.port p).release x.outgoing (x.shifter ++ bytes).length)) ∨
       ((∀ e, x.outgoing ≠ .pending e) ∧
          exchangeEnd p bytes s =
            (s.setPort p ((s.port p).release x.outgoing (x.shifter ++ bytes).length)).receive p (x.shifter ++ bytes))) := by
  unfold exchangeEnd
  cases hx : (s.port p).exchange with
  | none => exact .inl ⟨rfl, rfl⟩
  | some x =>
    refine .inr ⟨x, rfl, ?_⟩
    cases ho : x.outgoing with
    | pending e => exact .inl ⟨e, rfl, by simp [ho]⟩
    | null => exact .inr ⟨by simp, by simp [ho]⟩
    | response r => exact .inr ⟨by simp, by simp [ho]⟩

/-- A code of a request without fields gives a request of the port it arrives on, with that code (R191). -/
theorem fieldlessRequest_request {p : Port} {code : Byte} {i : Instr} (h : fieldlessRequest p code = some i) :
    ∃ r, requestOf i = some r ∧ r.port = p ∧ r.code = code := by
  unfold fieldlessRequest at h
  split at h <;> first
    | (rename_i hc; cases h; exact ⟨_, rfl, rfl, BitVec.eq_of_toNat_eq hc.symm⟩)
    | exact absurd h (by simp)

/-- A negative number of a field that is never clamped lies above every range (R189). -/
theorem unclampedNumber_of_neg {n : Int} (h : n < 0) : unclampedNumber n = two32 := if_neg (by omega)

/-- A number that is not negative stands as it is. -/
theorem unclampedNumber_natCast (n : Nat) : unclampedNumber n = n := by simp [unclampedNumber]

/-- A number of a field of w bits lies within them (R26, R39, R40). -/
theorem Fields.word_lt (x : Fields) (w k : Nat) : x.word w k < 2 ^ w := BitVec.isLt _

/-- A code of a request with fields gives a request of the port it arrives on, with that code, whatever its payload (R191). -/
theorem fieldedRequest_request {p : Port} {code : Byte} {payload : List Byte} {i : Instr}
    (h : fieldedRequest p code payload = some i) : ∃ r, requestOf i = some r ∧ r.port = p ∧ r.code = code := by
  unfold fieldedRequest at h
  split at h <;> first
    | (rename_i hc; cases h; exact ⟨_, rfl, rfl, BitVec.eq_of_toNat_eq hc.symm⟩)
    | (rename_i hc; cases h; unfold Fields.markEdge; split <;> exact ⟨_, rfl, rfl, BitVec.eq_of_toNat_eq hc.symm⟩)
    | exact absurd h (by simp)

/-- Whether a code is one of the requests with fields depends on the code alone. -/
theorem fieldedRequest_isSome (p q : Port) (code : Byte) (a b : List Byte) :
    (fieldedRequest p code a).isSome = (fieldedRequest q code b).isSome := by
  unfold fieldedRequest; split <;> rfl

/-- Whether a code is one of the requests without fields depends on the code alone. -/
theorem fieldlessRequest_isSome (p q : Port) (code : Byte) :
    (fieldlessRequest p code).isSome = (fieldlessRequest q code).isSome := by
  unfold fieldlessRequest; split <;> rfl

/-- The request a code and a payload give is a request of the port it arrives on, with that code, and its length is one that the
fields of the code allow (R178, R191). -/
theorem parseRequest_request {p : Port} {code : Byte} {payload : List Byte} {i : Instr} (h : parseRequest p code payload = some i) :
    lengthFits code payload.length = true ∧ ∃ r, requestOf i = some r ∧ r.port = p ∧ r.code = code := by
  unfold parseRequest at h
  split at h
  · rename_i hl
    refine ⟨hl, ?_⟩
    cases hf : fieldlessRequest p code with
    | some k => rw [hf] at h; cases h; exact fieldlessRequest_request hf
    | none => rw [hf] at h; exact fieldedRequest_request h
  · exact absurd h (by simp)

/-- What the port unit does with received bytes: nothing, an answer of its own, or the taking of a request of that port (R178,
R180). -/
theorem State.receive_cases (s : State) (p : Port) (bs : List Byte) :
    s.receive p bs = s ∨ (∃ r, s.receive p bs = s.place p r) ∨
      ∃ i r code long, requestOf i = some r ∧ p = r.port ∧ s.receive p bs = s.takeRequest p code long (r.act long) := by
  unfold State.receive
  split
  · exact .inl rfl
  · exact .inr (.inl ⟨_, rfl⟩)
  · split
    · exact .inr (.inl ⟨_, rfl⟩)
    · rename_i r hr
      obtain ⟨i, hp, hi⟩ := Option.bind_eq_some_iff.mp hr
      obtain ⟨-, r', hi', hport, -⟩ := parseRequest_request hp
      cases hi.symm.trans hi'
      exact .inr (.inr ⟨i, r, _, _, hi, hport.symm, rfl⟩)

/-! ### Bytes of frames -/

theorem fitTo_length (n : Nat) (bs : List Byte) : (fitTo n bs).length = n := by simp [fitTo]

/-- The i-th byte of a list brought to a length is the list's own, or 0 beyond its end. -/
theorem fitTo_getElem? {n i : Nat} (bs : List Byte) (h : i < n) : (fitTo n bs)[i]? = some ((bs[i]?).getD 0) := by
  unfold fitTo
  rw [List.getElem?_take, if_pos h]
  by_cases hb : i < bs.length
  · rw [List.getElem?_append_left hb, List.getElem?_eq_getElem hb]; rfl
  · rw [List.getElem?_append_right (by omega), List.getElem?_replicate, if_pos (by omega), List.getElem?_eq_none (by omega)]
    rfl

/-- As many bytes are shifted out as are clocked: the frame's bytes, then 0x00 (R175). -/
theorem Frame.shifted_spec (out : Frame) (n : Nat) :
    (out.shifted n).length = n ∧ ∀ i, i < n → (out.shifted n)[i]? = some ((out.bytes[i]?).getD 0) :=
  ⟨fitTo_length .., fun _ h => fitTo_getElem? _ h⟩

theorem portStatusPayload_length_le (self : Port) (ports : PerPort PortReport) : (portStatusPayload self ports).length ≤ 56 := by
  unfold portStatusPayload maskBytes wordBytes Config.maxPayload
  simp only [List.length_append, List.length_take, List.length_cons, List.length_nil]
  omega

/-- Every payload fits a frame (R176). -/
theorem Body.payload_length_le (b : Body) : b.payload.length ≤ 56 := by
  unfold Body.payload
  split
  · simp
  · simp
  · simp [Notice.bytes, paramBytes, wordBytes]
  · rw [fitTo_length]; decide
  · simp [Config.stagePayload]
  · exact portStatusPayload_length_le ..
  · simp [Config.maxPayload]

/-! ### Every step -/

/-- A character leaves the line buffer at most full, or as it was (R5). -/
theorem characterArrival_buffer (d : Byte) (b : Bool) (x : Sensing) :
    (characterArrival d b x).receiver.buffer.length ≤ 16 ∨
      (characterArrival d b x).receiver.buffer = x.receiver.buffer := by
  have hline : (endLine x).receiver.buffer = [] := by unfold endLine; split <;> rfl
  have hchar : ∀ c, (bufferChar c x).receiver.buffer.length ≤ 16 ∨ (bufferChar c x).receiver.buffer = x.receiver.buffer := by
    intro c
    unfold bufferChar Config.lineSize
    by_cases hc : c.data = 0x0D ∧ c.mark = .none
    · rw [if_pos hc]
      cases x.receiver.mode
      · by_cases he : x.receiver.buffer = []
        · simp only [if_pos he]; exact .inr trivial
        · simp only [if_neg he]; exact .inl (by rw [hline]; simp)
      · exact .inr rfl
    · rw [if_neg hc]
      cases x.receiver.mode
      · by_cases hl : x.receiver.buffer.length < 16
        · simp only [if_pos hl]; exact .inl (by simp; omega)
        · simp only [if_neg hl]; exact .inl (by simp)
      · exact .inr rfl
  unfold characterArrival
  by_cases hb : x.receiver.breakHold = true
  · rw [if_pos hb]; exact .inr rfl
  · rw [if_neg hb]; exact hchar _

/-- A property that setting a last-request time, placing a response, an exchange and every handler keep, is kept by the taking of
any request. -/
theorem State.takeRequest_keeps {Inv : State → Prop} (stamp : ∀ s p, Inv s → Inv (s.stamp p))
    (place : ∀ s p r, Inv s → Inv (s.place p r)) {s : State} {p : Port} {code : Byte} {long : Bool} {f : State → Answer}
    (act : s.takes p → Inv (s.stamp p) → Inv (f (s.stamp p)).1) (h : Inv s) : Inv (s.takeRequest p code long f) := by
  by_cases ht : s.takes p
  · rw [State.takeRequest_of_takes ht]
    have h' := act ht (stamp s p h)
    unfold State.answer
    split
    · exact h'
    · exact place _ _ _ h'
  · rw [State.takeRequest_of_not_takes ht]; exact h

/-- A property of the state kept by every command: the ports' own updates, every request handler and every event keep it. -/
theorem exec_keeps {Inv : State → Prop} (stamp : ∀ s p, Inv s → Inv (s.stamp p))
    (place : ∀ s p r, Inv s → Inv (s.place p r))
    (exchange : ∀ s p x, Inv s → Inv (s.setPort p { s.port p with exchange := x }))
    (release : ∀ s p out n, Inv s → Inv (s.setPort p ((s.port p).release out n)))
    (request : ∀ (i : Instr) (r : Request) (long : Bool) (s : State), requestOf i = some r → s.takes r.port →
      Inv (s.stamp r.port) → Inv (r.act long (s.stamp r.port)).1)
    (count : ∀ s, Inv s → Inv (stationClockCount s)) (close : ∀ s, Inv s → Inv (minuteClose s))
    (sensing : ∀ s x, x.receiver.buffer.length ≤ 16 ∨ x.receiver.buffer = s.sensing.receiver.buffer → Inv s →
      Inv { s with sensing := x })
    (cableway : ∀ s x, x.exposure = s.cableway.exposure → Inv s → Inv { s with cableway := x })
    (meter : ∀ s ms, Inv s → Inv (meterClosure ms s)) (expose : ∀ s ms waits, Inv s → Inv (exposureExpiry ms waits s))
    (phase : ∀ s out ms, Inv s → Inv (s.phaseExpiry out ms)) (idle : ∀ s, Inv s → Inv s.idleExpiry)
    (deadline : ∀ s, Inv s → Inv s.deadlineExpiry) (completion : ∀ s, Inv s → Inv (saveCompletion s))
    (on : ∀ s b x y z, Inv s → Inv (powerOn b x y z s)) (loss : ∀ s, Inv s → Inv (mainPowerLoss s))
    {i : Instr} {s t : State} (h : Inv s) (e : exec i s = .next t) : Inv t := by
  have ev : ∀ f : State → State, (∀ s, Inv s → Inv (f s)) → Inv (s.whenPowered f) := by
    intro f hf; unfold State.whenPowered; split
    · exact hf s h
    · exact h
  have req : ∀ (i : Instr) (r : Request), requestOf i = some r → exec i s = .next t → Inv t := by
    intro i r hr he
    rw [exec_of_request hr] at he
    cases he
    exact State.takeRequest_keeps stamp place (fun ht hs => request i r false s hr ht hs) h
  have buf : ∀ d b (x : Sensing), (characterArrival d b x).receiver.buffer.length ≤ 16 ∨
      (characterArrival d b x).receiver.buffer = x.receiver.buffer := fun d b x => characterArrival_buffer d b x
  cases hr : requestOf i with
  | some r => exact req i r hr e
  | none =>
    cases i
    case stationClockCount => cases e; exact count s h
    case minuteClose => cases e; exact ev _ close
    case floatEncoderTransition pair => cases e; exact ev _ (fun s hs => sensing s _ (.inr rfl) hs)
    case pressCharacterArrival d b => cases e; exact ev _ (fun s hs => sensing s _ (buf d b s.sensing) hs)
    case pressIdleGap =>
      cases e
      refine ev _ (fun s hs => sensing s _ ?_ hs)
      unfold idleGap; split
      · split
        · exact .inr rfl
        · exact .inl (by simp)
      · exact .inr rfl
    case pressLineReturnsHigh => cases e; exact ev _ (fun s hs => sensing s _ (.inr rfl) hs)
    case traverseTransition pair => cases e; exact ev _ (fun s hs => cableway s _ rfl hs)
    case soundingTransition pair => cases e; exact ev _ (fun s hs => cableway s _ rfl hs)
    case meterClosure ms => cases e; exact ev _ (fun s hs => meter s ms hs)
    case exposureExpiry a => cases e; exact ev _ (fun s hs => expose s a.ms a.waits hs)
    case phaseExpiry out ms => cases e; exact ev _ (fun s hs => phase s out ms hs)
    case idleExpiry => cases e; exact ev _ idle
    case deadlineExpiry => cases e; exact ev _ deadline
    case saveCompletion => cases e; exact ev _ completion
    case powerOn b x y z => cases e; exact on s b x y z h
    case mainPowerLoss => cases e; exact ev _ loss
    case exchangeBegin p =>
      cases e
      refine ev _ (fun s hs => ?_)
      unfold exchangeBegin; split
      · exact hs
      · exact exchange s p _ hs
    case exchangeEnd p bytes =>
      cases e
      refine ev _ (fun s hs => ?_)
      rcases exchangeEnd_cases p bytes s with ⟨_, he⟩ | ⟨x, _, ⟨_, _, he⟩ | ⟨_, he⟩⟩
      · rw [he]; exact hs
      · rw [he]; exact release s p _ _ hs
      · rw [he]
        have hrel := release s p x.outgoing (x.shifter ++ bytes).length hs
        rcases State.receive_cases (s.setPort p ((s.port p).release x.outgoing (x.shifter ++ bytes).length)) p
          (x.shifter ++ bytes) with hc | ⟨r, hc⟩ | ⟨i, r, code, long, hi, rfl, hc⟩
        · rw [hc]; exact hrel
        · rw [hc]; exact place _ _ _ hrel
        · rw [hc]
          exact State.takeRequest_keeps stamp place (fun ht h2 => request i r long _ hi ht h2) hrel
    case null p => cases e; exact h
    all_goals exact absurd hr (by simp [requestOf])

end Sys2Proof.Machine
end

