-- ==== Sys2Proof/Laws/Warning.lean ====
section
/-! SUPPORT. What the taking of an action entry and the evaluation of a minute close can do to the warning unit. -/

namespace Sys2Proof.Machine

open Sys2Proof

/-- The level a next-level field leaves (R85). -/
theorem State.entryLevel_level (s : State) (next : Option Level) (time : Nat) :
    (s.entryLevel next time).warning.level = next.getD s.warning.level := by
  unfold State.entryLevel
  cases next with
  | none => rfl
  | some l =>
    by_cases h : l = s.warning.level
    · simp [h]
    · simp [h, State.changeLevel, State.setWarning, State.endTests]

/-- Step 1 of an entry at the warning unit: a level change writes the level, its record and the stage counts (R63, R85). -/
theorem State.entryLevel_warning (s : State) (next : Option Level) (time : Nat) :
    (s.entryLevel next time).warning =
      if next.getD s.warning.level = s.warning.level then s.warning
      else { s.warning with level := next.getD s.warning.level, lastChange := ⟨time, .table⟩, up := 0, down := 0 } := by
  unfold State.entryLevel
  cases next with
  | none => simp
  | some l =>
    by_cases h : l = s.warning.level
    · simp [h]
    · simp [h, State.changeLevel, State.setWarning, State.endTests]

/-- Step 5 of an entry at the warning unit (R88). -/
theorem State.entryAck_warning (s : State) (required changed : Bool) (time : Nat) :
    (s.entryAck required changed time).warning =
      { s.warning with ack :=
          if required then some ⟨s.warning.level, time, s.ackSeconds s.warning.level, 0, 0⟩
          else if changed then none else s.warning.ack } := by
  unfold State.entryAck
  cases required
  · cases changed
    · rfl
    · cases h : s.warning.ack with
      | none => simp [State.withdrawAck, h]; rw [← h]
      | some r => simp [State.withdrawAck, h]; rfl
  · simp [State.openAck, State.setWarning]

/-- The taking of an action entry at the warning unit (R85, R88). -/
theorem State.takeEntry_warning (s : State) (cls : TriggerClass) (time : Nat) :
    (s.takeEntry cls time).warning =
      (let e := s.entryOf s.warning.level cls
       let l := e.next.getD s.warning.level
       let w := if l = s.warning.level then s.warning
         else { s.warning with level := l, lastChange := ⟨time, .table⟩, up := 0, down := 0 }
       { w with ack := if e.ack then some ⟨l, time, s.ackSeconds l, 0, 0⟩ else if l ≠ s.warning.level then none
          else s.warning.ack }) := by
  unfold State.takeEntry
  have hr : ∀ (t : State) b, (t.entryRetrieve b time).warning = t.warning := by intro t b; simp
  simp only [hr, State.entryAck_warning, State.entryNotice_warning, State.entryInterval_warning, State.entryPatterns_warning,
    State.entryLevel_warning]
  generalize (s.entryOf s.warning.level cls) = e
  have hs : ∀ l, State.ackSeconds (((((s.entryLevel e.next time).entryPatterns e).entryInterval e.interval).entryNotice
    e.notice cls s.warning.level time)) l = s.ackSeconds l := by intro l; simp [State.ackSeconds]
  simp only [hs]
  by_cases h : e.next.getD s.warning.level = s.warning.level <;> simp [h]

/-- A class raised leaves every field of the warning unit but the level, its record, the stage counts and the pending record
(R65, R75). -/
theorem State.takeEntry_states (s : State) (cls : TriggerClass) (time : Nat) :
    (s.takeEntry cls time).warning.rateState = s.warning.rateState ∧
    (s.takeEntry cls time).warning.rateHigh = s.warning.rateHigh ∧
    (s.takeEntry cls time).warning.rateLow = s.warning.rateLow ∧
    (s.takeEntry cls time).warning.flowState = s.warning.flowState ∧
    (s.takeEntry cls time).warning.flowHigh = s.warning.flowHigh ∧
    (s.takeEntry cls time).warning.flowLow = s.warning.flowLow ∧
    (s.takeEntry cls time).warning.lostAtClose = s.warning.lostAtClose ∧
    (s.takeEntry cls time).warning.evaluation = s.warning.evaluation := by
  rw [State.takeEntry_warning]
  simp only
  split <;> simp

/-! ### What the counts and states of the warning unit do not reach

Replacing the warning unit passes through every operation that an action entry is made of. -/

section SetWarning

variable (s : State) (w : WarningUnit)

@[simp] theorem State.setWarning_warning : (s.setWarning w).warning = w := rfl

@[simp] theorem State.setWarning_setWarning (v : WarningUnit) : (s.setWarning w).setWarning v = s.setWarning v := rfl

theorem State.postTo_setWarning (p : Port) (n : Notice) : (s.setWarning w).postTo p n = (s.postTo p n).setWarning w := by
  unfold State.postTo; rw [apply_ite (fun t : State => t.setWarning w)]; rfl

theorem State.postAll_setWarning (n : Notice) : (s.setWarning w).postAll n = (s.postAll n).setWarning w := by
  simp only [State.postAll, State.postTo_setWarning]

theorem State.entryPatterns_setWarning (e : ActionEntry) :
    (s.setWarning w).entryPatterns e = (s.entryPatterns e).setWarning w := by
  unfold State.entryPatterns State.handField; cases e.siren <;> cases e.beacon <;> rfl

theorem State.skipEntries_setWarning (p : Port) (n c : Nat) :
    (s.setWarning w).skipEntries p n c = (s.skipEntries p n c).setWarning w := by
  unfold State.skipEntries; simp only [← State.postTo_setWarning]; rfl

theorem State.wrapLog_setWarning : (s.setWarning w).wrapLog = s.wrapLog.setWarning w := by
  have h : ∀ (t : State) p, (t.setWarning w).wrapCursor p = (t.wrapCursor p).setWarning w := by
    intro t p; unfold State.wrapCursor
    rw [apply_ite (fun t : State => t.setWarning w), State.skipEntries_setWarning]; rfl
  unfold State.wrapLog; simp only [h]; rw [apply_ite (fun t : State => t.setWarning w)]; rfl

theorem State.dropOldest_setWarning : (s.setWarning w).dropOldest = s.dropOldest.setWarning w := by
  have hp : ∀ (t : State) r p, (t.setWarning w).pushCursor r p = (t.pushCursor r p).setWarning w := by
    intro t r p; unfold State.pushCursor
    rw [State.skipEntries_setWarning, apply_ite (fun t : State => t.setWarning w)]; rfl
  unfold State.dropOldest
  split
  · rename_i e r h
    have h' : s.log.entries = e :: r := h
    rw [h']; simp only
    rw [apply_ite (fun t : State => t.setWarning w), ← hp, ← hp, ← hp,
      show (s.setWarning w).log.entries.length = (e :: r).length from congrArg List.length h]
    rfl
  · rename_i h
    have h' : s.log.entries = [] := h
    rw [h']

theorem State.closeEntry_setWarning (l : Level) : (s.setWarning w).closeEntry l = (s.closeEntry l).setWarning w := by
  unfold State.closeEntry State.writeEntry
  rw [State.wrapLog_setWarning, State.dropOldest_setWarning, apply_ite (fun t : State => t.setWarning w)]; rfl

theorem State.entryInterval_setWarning (i : Option Interval) (h : w.level = s.warning.level) :
    (s.setWarning w).entryInterval i = (s.entryInterval i).setWarning w := by
  unfold State.entryInterval State.changeInterval
  cases i with
  | none => rfl
  | some i =>
    simp only [State.setWarning_warning, h]
    rw [State.closeEntry_setWarning, apply_ite (fun t : State => t.setWarning w)]; rfl

theorem State.entryNotice_setWarning (post : Bool) (cls : TriggerClass) (before : Level) (time : Nat)
    (h : w.level = s.warning.level) :
    (s.setWarning w).entryNotice post cls before time = (s.entryNotice post cls before time).setWarning w := by
  unfold State.entryNotice
  simp only [State.setWarning_warning, h]
  rw [State.postAll_setWarning, apply_ite (fun t : State => t.setWarning w)]

theorem State.retrieve_setWarning (time : Nat) : (s.setWarning w).retrieve time = (s.retrieve time).setWarning w := by
  have h : ∀ (t : State) c e, (t.setWarning w).postRetrieve c time e = (t.postRetrieve c time e).setWarning w := by
    intro t c e; unfold State.postRetrieve
    simp only [State.postTo_setWarning, State.postAll_setWarning]; cases c.holder <;> rfl
  unfold State.retrieve
  simp only [State.setWarning_run, State.setWarning_cableway]
  cases s.run.ctx with
  | none => rfl
  | some c =>
    simp only
    cases c.phase with
    | opened => exact h ..
    | finished => exact h ..
    | retrieving _ => exact h ..
    | rest r => rw [← h]; rfl
    | exposing v f => cases s.cableway.exposure <;> (simp only; rw [← h]; rfl)

/-- Step 1 of an entry asks the warning unit for the level alone. -/
theorem State.entryLevel_setWarning (next : Option Level) (time : Nat) (h : w.level = s.warning.level) :
    (s.setWarning w).entryLevel next time =
      (s.entryLevel next time).setWarning ((s.setWarning w).entryLevel next time).warning := by
  unfold State.entryLevel
  cases next with
  | none => rfl
  | some l =>
    simp only [State.setWarning_warning, h]
    by_cases hl : l = s.warning.level
    · simp only [if_pos hl]; rfl
    · simp only [if_neg hl]; rfl

/-- Step 5 of an entry asks the warning unit for the level and the pending record alone. -/
theorem State.entryAck_setWarning (required changed : Bool) (time : Nat) (h : w.level = s.warning.level)
    (ha : w.ack = s.warning.ack) :
    (s.setWarning w).entryAck required changed time =
      (s.entryAck required changed time).setWarning ((s.setWarning w).entryAck required changed time).warning := by
  rw [State.entryAck_warning, State.setWarning_warning]
  unfold State.entryAck State.openAck State.withdrawAck
  obtain ⟨level, lastChange, up, down, rs, rh, rl, fs, fh, fl, lost, ev, ack⟩ := w
  simp only at h ha
  subst h ha
  cases required
  · cases changed
    · rfl
    · cases s.warning.ack with
      | none => simp
      | some r =>
        simp only [State.setWarning_warning, if_true, Bool.false_eq_true, if_false]
        rw [← State.postAll_setWarning]; rfl
  · simp only [if_true, State.setWarning_warning, State.setWarning_setWarning]; rw [← State.postAll_setWarning]; rfl

/-- The taking of an action entry asks the warning unit for the level and the pending record alone: what stands in its counts, its
states and its evaluation record reaches nothing outside it (R75, R85). -/
theorem State.takeEntry_setWarning (cls : TriggerClass) (time : Nat) (h : w.level = s.warning.level) (ha : w.ack = s.warning.ack) :
    (s.setWarning w).takeEntry cls time =
      (s.takeEntry cls time).setWarning ((s.setWarning w).takeEntry cls time).warning := by
  suffices hw : ∃ v, (s.setWarning w).takeEntry cls time = (s.takeEntry cls time).setWarning v by
    obtain ⟨v, hv⟩ := hw
    rw [hv, State.setWarning_warning]
  unfold State.takeEntry
  have he : ∀ l, (s.setWarning w).entryOf l cls = s.entryOf l cls := fun _ => rfl
  simp only [State.setWarning_warning, h, he]
  generalize s.entryOf s.warning.level cls = e
  have h1 := State.entryLevel_setWarning s w e.next time h
  have hl : ((s.setWarning w).entryLevel e.next time).warning.level = (s.entryLevel e.next time).warning.level := by
    rw [State.entryLevel_level, State.entryLevel_level, State.setWarning_warning, h]
  have hk : ((s.setWarning w).entryLevel e.next time).warning.ack = (s.entryLevel e.next time).warning.ack := by
    rw [State.entryLevel_warning, State.entryLevel_warning, State.setWarning_warning, apply_ite WarningUnit.ack,
      apply_ite WarningUnit.ack, ha, ite_self, ite_self]
  generalize ((s.setWarning w).entryLevel e.next time).warning = v at h1 hl hk
  rw [h1]
  generalize s.entryLevel e.next time = a at hl hk ⊢
  have hn : ∀ b c t, ((((a.entryPatterns e).entryInterval e.interval).entryNotice b c s.warning.level t)).warning = a.warning := by
    intro b c t; simp
  rw [State.entryPatterns_setWarning, State.entryInterval_setWarning _ _ _ (by simpa using hl),
    State.entryNotice_setWarning _ _ _ _ _ _ (by simpa using hl), State.setWarning_warning, hn, hl,
    State.entryAck_setWarning _ _ _ _ _ (by rw [hn]; exact hl) (by rw [hn]; exact hk)]
  unfold State.entryRetrieve
  cases e.retrieve with
  | false => exact ⟨_, rfl⟩
  | true => exact ⟨_, by rw [if_pos rfl, if_pos rfl]; exact State.retrieve_setWarning ..⟩

end SetWarning

end Sys2Proof.Machine
end

