-- ==== Sys2Proof/Laws/Answers.lean ====
section
/-! SUPPORT. What a taken request leaves: the handler's state with the answer of Safety.lean at its port, with or without a
posting; and what the forms of request fields give in the terms of Safety.lean. -/

namespace Sys2Proof.Machine

open Sys2Proof

/-- Two states that agree apart from their ports and agree at every port are the same. -/
theorem State.ext_ports {s t : State} (h : { s with ports := t.ports } = t) (hp : ∀ q, s.port q = t.port q) : s = t := by
  have hs : s.ports = t.ports := by
    have a := hp .a; have b := hp .b; have c := hp .c
    cases hs : s.ports; cases ht : t.ports
    simp [State.port, PerPort.get, hs, ht, -State.port_mk] at a b c
    simp [a, b, c]
  rw [← h, ← hs]

/-- The answer of a handler that left state t, where u is t apart from the last-request time at the port (R180). -/
theorem State.answer_answered {t u : State} {p : Port} {code : Byte} {st : Status} {b : Body} {time : Nat}
    (h : { t with ports := u.ports } = u)
    (hp : ∀ q, t.port q = if q = p then { u.port p with lastRequest := some time } else u.port q) :
    State.answer p code false (reply t st b) = u.answered p time code st b := by
  rw [State.answer_reply]
  apply State.ext_ports
  · unfold State.place State.answered State.setPort; rw [← h]
  · intro q
    have h1 := hp q; have h2 := hp p
    simp only [State.place, State.answered, State.port_setPort] at *
    split
    · simp_all
    · simp_all

/-- A posting to every port, port by port. -/
theorem State.postAll_eq (s : State) (n : Notice) :
    s.postAll n = { s with ports := ⟨(s.port .a).received s.cfg.masks.a n, (s.port .b).received s.cfg.masks.b n,
      (s.port .c).received s.cfg.masks.c n⟩ } := by
  apply State.ext_ports
  · cases s; simp [State.postAll, State.postTo, State.setPort]; split <;> split <;> split <;> simp
  · intro q; rw [State.port_postAll]; cases q <;> rfl

/-- A port that receives a posting changes in its queue alone (R183). -/
theorem PortState.received_queue (q : PortState) (m : BitVec 18) (n : Notice) :
    q.received m n = { q with queue := (q.received m n).queue } := by unfold PortState.received; split <;> rfl

/-- What a posting leaves in a queue depends on the queue alone (R183). -/
theorem PortState.received_queue_congr {q r : PortState} (h : q.queue = r.queue) (m : BitVec 18) (n : Notice) :
    (q.received m n).queue = (r.received m n).queue := by unfold PortState.received; split <;> simp [h]

/-- The answer of a handler whose act ends with one posting. -/
theorem State.answer_posted {t u : State} {p : Port} {code : Byte} {st : Status} {b : Body} {n : Notice} {time : Nat}
    (h : { t with ports := u.ports } = u)
    (hp : ∀ q, t.port q = if q = p then { u.port p with lastRequest := some time } else u.port q) :
    State.answer p code false (reply (t.postAll n) st b) = (u.postAll n).answered p time code st b := by
  have hc : t.cfg = u.cfg := by rw [← h]
  apply State.answer_answered
  · rw [State.postAll_eq, State.postAll_eq, ← h]
  · intro q
    rw [State.port_postAll, State.port_postAll, State.port_postAll, hc]
    have hq := hp q
    split
    · rename_i e; subst e
      rw [hq, if_pos rfl, PortState.received_queue, PortState.received_queue (u.port q)]
      simp only
      rw [PortState.received_queue_congr (q := { u.port q with lastRequest := some time }) (r := u.port q) rfl]
    · rename_i e; rw [hq, if_neg e]

/-- An optional configuration value gives the value kept in range and whether the field was out of range. -/
theorem optClamp_eq (lo hi : Int) (f : Option Int) (old : Int) :
    optClamp lo hi f old = ⟨inRangeOr lo hi f old, outOfRange lo hi f⟩ := by
  cases f <;> simp [optClamp, inRangeOr, outOfRange, clampMarked]

/-- An optional count gives the value kept in range and whether the field was out of range. -/
theorem optCount_eq (lo hi : Int) (f : Option Int) (old : Nat) :
    optCount lo hi f old = ((inRangeOr lo hi f old).toNat, outOfRange lo hi f) := by
  cases f <;> simp [optCount, inRangeOr, outOfRange, clampMarked]

/-- One optional pattern field: refused above 7, else it gives its number or keeps the old one. -/
theorem optField_patternOf (o : Option Nat) :
    ((∃ n, o = some n ∧ 7 < n) ∧ optField patternOf o = none) ∨
      ((∀ n, o = some n → n ≤ 7) ∧ ∃ k, optField patternOf o = some k ∧ ∀ d : Fin 8, (k.getD d).val = o.getD d.val) := by
  cases o with
  | none => exact .inr ⟨by simp, none, rfl, fun _ => rfl⟩
  | some n =>
    by_cases h : 7 < n
    · exact .inl ⟨⟨n, rfl, h⟩, by simp [optField, patternOf]; omega⟩
    · exact .inr ⟨by intro m e; cases e; omega, some ⟨n, by omega⟩, by simp [optField, patternOf, show n < 8 by omega], fun _ => rfl⟩

/-- Four optional pattern fields are refused where any is above 7 (R79, R98). -/
theorem optPatterns_none {f : PerLevel (Option Nat)} {old : PerLevel (Fin 8)} {l : Level} {n : Nat} (h : f.get l = some n)
    (hn : 7 < n) : optPatterns f old = none := by
  have hk : optField patternOf (f.get l) = none := by rw [h]; simp [optField, patternOf]; omega
  unfold optPatterns
  cases l <;> simp only [PerLevel.get] at hk <;> rw [hk] <;> split <;> simp_all

/-- Four optional pattern fields, none above 7, give a pattern for each level (R79, R98). -/
theorem optPatterns_some {f : PerLevel (Option Nat)} (old : PerLevel (Fin 8)) (h : ∀ l n, f.get l = some n → n ≤ 7) :
    ∃ t, optPatterns f old = some t ∧ ∀ l, (t.get l).val = (f.get l).getD (old.get l).val := by
  have key : ∀ l, ∃ k, optField patternOf (f.get l) = some k ∧ ∀ d : Fin 8, (k.getD d).val = (f.get l).getD d.val := by
    intro l
    rcases optField_patternOf (f.get l) with ⟨⟨n, e, hn⟩, _⟩ | ⟨_, k⟩
    · exact absurd (h l n e) (by omega)
    · exact k
  obtain ⟨a, ha, ha'⟩ := key .normal
  obtain ⟨b, hb, hb'⟩ := key .watch
  obtain ⟨c, hc, hc'⟩ := key .warning
  obtain ⟨d, hd, hd'⟩ := key .danger
  simp only [PerLevel.get] at ha hb hc hd ha' hb' hc' hd'
  refine ⟨⟨a.getD old.l0, b.getD old.l1, c.getD old.l2, d.getD old.l3⟩, ?_, ?_⟩
  · unfold optPatterns; rw [ha, hb, hc, hd]
  · intro l; cases l <;> simp only [PerLevel.get, ha', hb', hc', hd']

/-- The points of a bank are in order exactly where no failure of order is found (R46, R53). -/
theorem orderFailure_eq_none (i : Nat) (l : List RatingPoint) :
    orderFailure i l = none ↔ l.Pairwise (fun a b => a.h < b.h ∧ a.q ≤ b.q) := by
  induction l generalizing i with
  | nil => simp [orderFailure]
  | cons a l ih => cases l with
    | nil => simp [orderFailure]
    | cons b l =>
      simp only [orderFailure]
      split
      · simp; intro h; omega
      · split
        · simp; intro h; omega
        · rw [ih]; simp only [List.pairwise_cons]
          constructor
          · rintro ⟨h1, h2⟩
            refine ⟨?_, h1, h2⟩
            intro c hc
            rcases List.mem_cons.mp hc with rfl | hc
            · omega
            · have := h1 c hc; omega
          · rintro ⟨_, h⟩; exact h

/-- A bank is valid exactly where no failure is found in it (R46, R53). -/
theorem bankFailure_eq_none (l : List RatingPoint) : bankFailure l = none ↔ BankValid l := by
  unfold bankFailure BankValid
  split
  · simp; omega
  · rw [orderFailure_eq_none]; simp; omega

end Sys2Proof.Machine
end

