-- ==== Sys2Proof/Laws/Frames.lean ====
section
/-! SUPPORT. What the port unit does with the bytes of an exchange, by the checks of R178. -/

namespace Sys2Proof.Machine

open Sys2Proof

/-- Two bytes are a check as it is sent, most significant byte first, exactly where together they are that check (R176). -/
theorem checkBytes_eq_iff (c1 c2 : Byte) (x : BitVec 16) : [c1, c2] = checkBytes x ↔ c1 ++ c2 = x := by
  unfold checkBytes
  simp only [List.cons.injEq, and_true]
  have e1 : (x.extractLsb' 8 8).toNat = x.toNat / 256 := by
    have := x.isLt
    simp [BitVec.extractLsb'_toNat, Nat.shiftRight_eq_div_pow]; omega
  have e2 : (x.extractLsb' 0 8).toNat = x.toNat % 256 := by simp [BitVec.extractLsb'_toNat]
  have e3 : (c1 ++ c2).toNat = c1.toNat * 256 + c2.toNat := by
    rw [BitVec.toNat_append, Nat.shiftLeft_eq, Nat.mul_comm, ← Nat.two_pow_add_eq_or_of_lt c2.isLt]
  have h1 := c1.isLt
  have h2 := c2.isLt
  simp only [← BitVec.toNat_inj, e1, e2, e3]
  omega

/-- The status byte: REPLACED at bit 7, LONG at bit 6, the code below them (R192). -/
theorem statusByte_fields (r : Response) :
    (statusByte r).getLsbD 7 = r.replaced ∧ (statusByte r).getLsbD 6 = r.long ∧
      (statusByte r).extractLsb' 0 6 = r.status.code.extractLsb' 0 6 := by
  unfold statusByte
  generalize r.status = st; generalize r.replaced = a; generalize r.long = b
  cases st <;> cases a <;> cases b <;> decide

/-- The codes of the catalogue (R191). -/
theorem knownCode_iff (code : Byte) (h : code.toNat ≠ 0) :
    knownCode code = true ↔
      (1 ≤ code.toNat ∧ code.toNat ≤ 4) ∨ (8 ≤ code.toNat ∧ code.toNat ≤ 9) ∨ (0x10 ≤ code.toNat ∧ code.toNat ≤ 0x14) ∨
      (0x20 ≤ code.toNat ∧ code.toNat ≤ 0x28) ∨ (0x30 ≤ code.toNat ∧ code.toNat ≤ 0x37) ∨
      (0x40 ≤ code.toNat ∧ code.toNat ≤ 0x43) ∨ (0x48 ≤ code.toNat ∧ code.toNat ≤ 0x4C) ∨
      (0x50 ≤ code.toNat ∧ code.toNat ≤ 0x53) ∨ (0x60 ≤ code.toNat ∧ code.toNat ≤ 0x66) ∨
      (0x70 ≤ code.toNat ∧ code.toNat ≤ 0x80) ∨ (0x88 ≤ code.toNat ∧ code.toNat ≤ 0x89) := by
  revert code; decide +kernel

/-- Check 2 of R178. -/
theorem examine_oversize {code len : Byte} {rest : List Byte} (h : 56 < len.toNat) :
    examine (code :: len :: rest) = .refused code .badLength (decide (len.toNat + 2 < rest.length)) := by
  simp only [examine]; exact if_pos h

/-- Check 3 of R178. -/
theorem examine_short {code len : Byte} {rest : List Byte} (hn : len.toNat ≤ 56) (h : rest.length < len.toNat + 2) :
    examine (code :: len :: rest) = .refused code .shortFrame false := by
  simp only [examine]; exact (if_neg (Nat.not_lt.2 hn)).trans (if_pos h)

/-- Checks 4 to 7 of R178, for a frame received whole. -/
theorem examine_whole {code len : Byte} {payload : List Byte} (c1 c2 : Byte) (after : List Byte) (hn : len.toNat ≤ 56)
    (hp : payload.length = len.toNat) :
    examine (code :: len :: (payload ++ c1 :: c2 :: after)) = (
      let long := decide (len.toNat + 2 < (payload ++ c1 :: c2 :: after).length)
      if ¬ c1 ++ c2 = crc (code :: len :: payload) then .refused code .badFrame long
      else if code = 0 then (if len.toNat = 0 then .nothing else .refused code .badLength long)
      else if knownCode code then .request code payload long
      else .refused code .unknownRequest long) := by
  have ht : (payload ++ c1 :: c2 :: after).take len.toNat = payload := by rw [← hp]; simp
  have hd : ((payload ++ c1 :: c2 :: after).drop len.toNat).take 2 = [c1, c2] := by rw [← hp]; simp
  have hl : ¬ (payload ++ c1 :: c2 :: after).length < len.toNat + 2 := by simp; omega
  have h56 : ¬ Config.maxPayload < len.toNat := by simpa [Config.maxPayload] using hn
  simp only [examine]
  rw [if_neg h56, if_neg hl, ht, hd]
  by_cases h : c1 ++ c2 = crc (code :: len :: payload)
  · rw [if_neg (not_not.2 ((checkBytes_eq_iff ..).2 h)), if_neg (not_not.2 h)]
  · rw [if_pos (fun e => h ((checkBytes_eq_iff ..).1 e)), if_pos h]

end Sys2Proof.Machine
end

