-- ==== Sys2Proof/WellFormed.lean ====
section
/-! DEFINITION. The operands a command can carry: the ranges and shapes that the entries give a field as a field, before any check
of its value. A value that an entry clamps or refuses is well formed. -/

namespace Sys2Proof

/-- The segments of SET_METER carry an upper bound for every segment but the last (R121). -/
def boundShape : List SegmentArg → Bool
  | [] => true
  | [x] => x.bound.isNone
  | x :: y :: rest => x.bound.isSome && boundShape (y :: rest)

/-- A command's operands have the form its entry gives: SET_CLOCK's time and SEEK_LOG's sequence number lie in 0 to 4,294,967,295
(R26, R40), ADVANCE_LOG's count in 0 to 65,535 (R39), and SET_METER carries as many segments as it says, with their bounds
(R121). -/
def Instr.wellFormed (i : Instr) : Bool :=
  match i with
  | .setClock _ t => decide (t < two32)
  | .advanceLog _ n => decide (n < two16)
  | .seekLog _ seq => decide (seq < two32)
  | .setMeter _ _ _ count segs => decide (segs.length = count) && boundShape segs
  | _ => true

end Sys2Proof
end

