-- ==== Sys2Proof/Tests/Slice0.lean ====
section
/-! SUPPORT. Tests. The expected values of the tests are the worked figures of the spec (the chapter is named at each), and the
witnesses show, for every statement with hypotheses, states and operands that meet them. -/

namespace Sys2Proof.Tests

open Sys2Proof Sys2Proof.Machine

/-! ### Well-formed commands -/

theorem test_wellFormed_refuses_long_time : Instr.wellFormed (.setClock .a 4294967296) = false := by decide
theorem test_wellFormed_takes_longest_time : Instr.wellFormed (.setClock .a 4294967295) = true := by decide
theorem test_wellFormed_refuses_long_advance : Instr.wellFormed (.advanceLog .b 65536) = false := by decide
theorem test_wellFormed_refuses_long_seek : Instr.wellFormed (.seekLog .c 4294967296) = false := by decide
theorem test_wellFormed_refuses_segment_count : Instr.wellFormed (.setMeter .a 1 1 2 [⟨none, 0, 1⟩]) = false := by decide
theorem test_wellFormed_refuses_missing_bound :
    Instr.wellFormed (.setMeter .a 1 1 2 [⟨none, 0, 1⟩, ⟨none, 0, 1⟩]) = false := by decide
theorem test_wellFormed_refuses_last_bound : Instr.wellFormed (.setMeter .a 1 1 1 [⟨some 5, 0, 1⟩]) = false := by decide
theorem test_wellFormed_takes_two_segments :
    Instr.wellFormed (.setMeter .a 1 1 2 [⟨some 5, 0, 1⟩, ⟨none, 0, 1⟩]) = true := by decide

/-! ### States the tests start from -/

/-- The state after reset with a sensed stage (sensor state OK) and the encoder in order. -/
def sensed (stage : Int) : State :=
  { State.reset with sensing := { State.reset.sensing with
      float := ⟨stage, ⟨false, false⟩, none⟩, sensorState := .ok, lastAccepted := some ⟨stage, false⟩
      record := ⟨⟨some stage, .float, ⟨false, false, false⟩⟩, 0⟩ } }

/-- A run of Port A in a phase over a list of verticals. -/
def inRun (ph : RunPhase) (vs : List Vertical) : State :=
  let s := sensed 1512
  { s with
    run := { s.run with
      ctx := some ⟨ph, 1, some .a, 0, 0, .m1, 50000, 860, if vs.length ≤ 1 then none else some .ascending, 0, s.readStage, false,
        0, 0, false⟩
      verticals := vs, counter := 1 }
    outputs := { s.outputs with retrieve := decide (ph.state = .retrieving) }
    cableway := { s.cableway with exposure :=
      if ph.state = .exposing then some ⟨.m1, 50000, 0, 20000, 40, ⟨1200, false, none⟩, none⟩ else none } }

/-- The start edge of the worked run (09_, "Worked case"). -/
def startEdge : Vertical :=
  { index := 0, kind := .startEdge, station := ⟨2000, false, none, none⟩, depth := some ⟨0, .given⟩, method := none,
    factor := some 700, angle := some 1000, points := [], mean := none, stage := some ⟨some 1512, .ok⟩, partialQ := none,
    partialA := none, marks := ⟨false, false, false, false⟩ }

/-- An interior vertical with its mean velocity, not finalised. -/
def interior (i : Nat) (station depth mean stage : Int) : Vertical :=
  { index := i, kind := .interior, station := ⟨station, false, none, none⟩, depth := some ⟨depth, .sounded false none none⟩,
    method := some .one, factor := none, angle := some 1000, points := [], mean := some mean, stage := some ⟨some stage, .ok⟩,
    partialQ := none, partialA := none, marks := ⟨false, false, false, false⟩ }

/-- A point at a fraction of the depth. -/
def pointAt (f : Fraction) (v : Int) : Point :=
  { result := ⟨.m1, 0, ⟨1200, false, none⟩, 50000, 40, some 800, some 1, some v, ⟨false, false, false, false⟩⟩, posFault := none, fraction := f,
    stage := ⟨some 1512, .ok⟩, heldStage := false, excluded := false }

/-- A vertical under work in REVIEW with the point its method needs. -/
def inReview : Vertical := { interior 1 4000 1200 0 1520 with points := [pointAt .six 479], mean := none, stage := none }

/-- A run in FINISHED state over a list, with its sums as finalised. -/
def finished (vs : List Vertical) : State := inRun .finished vs

/-- Saving the settings for Port A. -/
def saving : State :=
  { State.reset with
    save := some ⟨.a, 0, 2, false⟩, store := ⟨false, State.reset.cfg⟩
    ports := State.reset.ports.set .a { State.reset.port .a with inProgress := some 0x08 } }

/-- The six-point bank of 03_rating_tables.md, "Worked figures". -/
def sixPoints : List RatingPoint := [⟨300, 0⟩, ⟨600, 120⟩, ⟨1000, 780⟩, ⟨1400, 2600⟩, ⟨1600, 4600⟩, ⟨2400, 15100⟩]

/-- The state after a command. -/
def after (i : Instr) (s : State) : State :=
  match exec i s with
  | .next t => t
  | .fault _ => s
  | .refused _ => s

/-- The status placed at a port. -/
def statusAt (s : State) (p : Port) : Option Status := (s.port p).slot.map Response.status

/-! ### Worked figures -/

/-- 10_station_ports.md, R176. -/
theorem test_crc_of_digits : crc [0x31, 0x32, 0x33, 0x34, 0x35, 0x36, 0x37, 0x38, 0x39] = 0x29B1#16 := by decide +kernel
/-- 10_station_ports.md, R176: the NULL frame. -/
theorem test_null_frame : Frame.null.bytes = [0x00, 0x00, 0x00, 0xCC, 0x9C] := by decide +kernel
/-- 10_station_ports.md, R176: a NULL request. -/
theorem test_null_request : examine [0x00, 0x00, 0x1D, 0x0F] = .nothing := by decide +kernel
/-- 00_scope.md, R1: ties away from zero. -/
theorem test_rounding_ties : roundDiv 5 2 = 3 ∧ roundDiv (-5) 2 = -3 := by decide
/-- 03_rating_tables.md, worked figures. -/
theorem test_rated_between : (ratedDischarge sixPoints 450).q = 60 ∧ (ratedDischarge sixPoints 833).q = 504 ∧
    (ratedDischarge sixPoints 1531).q = 3910 := by decide
/-- 03_rating_tables.md, worked figures. -/
theorem test_rated_ends : ratedDischarge sixPoints 250 = ⟨0, ⟨true, false, false⟩⟩ ∧
    ratedDischarge sixPoints 300 = ⟨0, ⟨true, false, false⟩⟩ ∧ (ratedDischarge sixPoints 1600).q = 4600 := by decide
/-- 07_cableway_counters_and_point_velocity.md, worked figures of R127. -/
theorem test_point_speed :
    (pointSpeed (factoryMeters.get .m1) 40 50000).velocity = some 557 ∧ (pointSpeed (factoryMeters.get .m1) 75 60000).velocity = some 867 ∧
      (pointSpeed (factoryMeters.get .m2) 213 40000).velocity = some 331 := by decide
/-- 07_cableway_counters_and_point_velocity.md, worked figures of R127. -/
theorem test_point_speed_ends :
    (pointSpeed (factoryMeters.get .m1) 0 60000).velocity = some 0 ∧ (pointSpeed (factoryMeters.get .m1) 17 32400).velocity = some 368 ∧
      (pointSpeed (factoryMeters.get .m3) 2500 20000).velocity = some 9999 := by decide
/-- 04_flood_warning_levels_and_triggers.md, the table of R64. -/
theorem test_thresholds :
    orderThresholds ⟨1500, 1400, 3000⟩ = ⟨1500, 1501, 3000⟩ ∧ orderThresholds ⟨2500, 2200, 3000⟩ = ⟨2500, 2501, 3000⟩ ∧
      orderThresholds ⟨2500, 2800, 3400⟩ = ⟨2500, 2800, 3400⟩ ∧ orderThresholds ⟨1500, 2200, 120000⟩ = ⟨1500, 2200, 99999⟩ := by
  decide
/-- 06_siren_beacon_and_retrieve_outputs.md, worked sequence: saved pattern 0 and duration 11,000 ms. -/
theorem test_output_test : ((after (.outputTest .c (.named .siren) 7 2) State.reset).port .c).slot.map Response.body =
    some (.testStarted 0 11000) := by decide
/-- 06_siren_beacon_and_retrieve_outputs.md, worked sequence, the rows at 0 and 200 ms. -/
theorem test_output_phases :
    let s := after (.outputTest .c (.named .siren) 7 2) State.reset
    s.outputs.siren.engine = ⟨7, .on, 200, 1, true⟩ ∧
      (after (.phaseExpiry .siren 200) s).outputs.siren.engine = ⟨7, .off, 800, 1, false⟩ := by decide
/-- 01_stage_sensing.md, worked sequence, seconds 1 and 3: a jump on the primary gauge. -/
theorem test_step_filter :
    (let t := stepFilter 300 (some ⟨1502, false⟩) ⟨0, false⟩ ⟨1950, false⟩; t.accepted = none ∧ t.filter = ⟨1, false⟩) ∧
      (stepFilter 300 (some ⟨1507, false⟩) ⟨2, false⟩ ⟨1951, false⟩).accepted = some (⟨1951, false⟩, true) := by decide
/-- 09_discharge_computation_and_run_results.md, worked case: the partial values of vertical 1. -/
theorem test_partials : partialDischarge 479 1200 4000 = 1149600 ∧ partialArea 1200 4000 = 2400000 := by decide
/-- 09_discharge_computation_and_run_results.md, worked case: the means of the edges. -/
theorem test_edge_means : edgeMean 700 479 = 335 ∧ edgeMean 700 298 = 209 := by decide

/-- The list of the worked case as MARK_EDGE END leaves it. -/
def workedList : List Vertical :=
  [{ startEdge with mean := some 335, partialQ := some 0, partialA := some 0 },
   { interior 1 4000 1200 479 1520 with partialQ := some 1149600, partialA := some 2400000 },
   { interior 2 6000 1800 612 1534 with partialQ := some 2203200, partialA := some 3600000 },
   { interior 3 8000 900 298 1541 with partialQ := some 536400, partialA := some 1800000 },
   { startEdge with index := 4, kind := .endEdge, station := ⟨10000, false, none, none⟩, mean := some 209, partialQ := some 0
                    partialA := some 0, stage := some ⟨some 1546, .ok⟩ }]

/-- The results ring after CLOSE_RUN of the worked case. -/
def workedResults : List RunResult :=
  (after (.closeRun .a) { finished workedList with cfg := { State.reset.cfg with bank := sixPoints } }).run.results
/-- 09_discharge_computation_and_run_results.md, worked case: the sums and the mean velocity of the result. -/
theorem test_close_run_sums : workedResults.map (fun r => (r.q, r.area, r.meanVelocity)) = [(3889200, 7800000, some 499)] := by
  decide
/-- 09_discharge_computation_and_run_results.md, worked case: GH, the rated discharge and the shift of the result. -/
theorem test_close_run_shift : workedResults.map (fun r => (r.gaugeHeight, r.ratedQ, r.shift)) =
    [(some 1531, some 3910, some (-5))] := by decide
/-- 08_the_gauging_run.md, R145, R150: an accepted vertical with a used point at 0.6. -/
theorem test_accept : statusAt (after (.accept .a) (inRun (.rest (.review inReview)) [startEdge])) .a = some .ok := by decide
/-- 08_the_gauging_run.md, R118, R140: a POSITION_FAULT first set before START_POINT marks the vertical. -/
theorem test_position_fault_at_start :
    let s := inRun (.rest (.points { inReview with points := [] })) [startEdge]
    let t := after (.startPoint .a 6) { s with cableway := { s.cableway with
      traverse := { s.cableway.traverse with fault := some .illegalTransition }, sounding := { s.cableway.sounding with fault := none } } }
    let u := after (.stopPoint .a) (after (.exposureExpiry ⟨20000, false⟩) t)
    (u.run.ctx.bind (fun c => c.phase.work)).map (fun v => (interiorMarks v ⟨some 1512, .ok⟩).positionFault) = some true := by decide
/-- 07_cableway_counters_and_point_velocity.md, R125 and R129: an expiry that waits lets a stop or a retrieve be taken first, with
t = T and no pulse counted. -/
theorem test_stop_or_cut_at_target :
    let s := after (.startPoint .a 6) (inRun (.rest (.points { inReview with points := [] })) [startEdge])
    let target := (s.cableway.exposure.map Exposure.target).getD 0
    let t := after (.exposureExpiry ⟨target, true⟩) s
    let ended := fun u : State => u.cableway.lastPoint.map (fun r => (decide (r.t = target), r.pulses, r.marks.short, r.marks.cut))
    ended (after (.stopPoint .a) t) = some (true, 0, true, false) ∧
      ended (t.retrieve 5) = some (true, 0, true, true) ∧
      ended (after (.exposureExpiry ⟨0, false⟩) t) = some (true, 0, false, false) := by decide
/-- 02_stage_log_trend_and_station_clock.md, the last line of the table of R30. -/
theorem test_rate_rounds : roundDiv ((1500 - 1497) * 60) 7 = 26 := by decide
/-- 10_station_ports.md, R189: a field of SET_ACTION that is neither of its two values, and a negative level, are refused. -/
theorem test_unclamped_refused :
    statusAt (after (.setAction .a 0 (.named .stageUp) ⟨none, none, none, none, .outside, .named false, .named false⟩) State.reset) .a =
      some .badValue ∧
    statusAt (after (.forceLevel .b (unclampedNumber (-1))) State.reset) .b = some .badValue := by decide
/-- 04_flood_warning_levels_and_triggers.md, R77. -/
theorem test_force_level : (after (.forceLevel .b 3) State.reset).warning.level = .danger ∧
    statusAt (after (.forceLevel .b 4) State.reset) .b = some .badValue := by decide
/-- 10_station_ports.md, R183 and 11_settings_store_retained_memory_and_restart.md, R197: the notices of a first power-on. -/
theorem test_first_notices : (State.reset.port .b).queue.map Notice.kind = [.settingsDefaulted, .retainedLost, .restarted] := by
  decide

/-! ### Witnesses: the hypotheses of the statements are met

Each theorem names the statement it is for and shows, clause by clause, concrete states and operands that meet its hypotheses. -/

/-- A notice of kind RETRIEVE. -/
def someNotice : Notice := ⟨.retrieve, 5, none, none, none, false⟩

/-- Without main power. -/
def unpowered : State := { State.reset with powered := false }

theorem witness_EveryCommandHasNextState :
    (∃ r, requestOf (.getStage .a) = some r ∧ ¬ unpowered.takes r.port) ∧ (∃ r, requestOf (.getStage .a) = some r ∧ ¬ saving.takes r.port) ∧
      unpowered.powered = false ∧ (Instr.minuteClose ≠ .stationClockCount) ∧ ∀ b x y z, Instr.minuteClose ≠ .powerOn b x y z :=
  ⟨⟨_, rfl, by rintro ⟨h, _⟩; cases h⟩, ⟨_, rfl, by rintro ⟨_, h⟩; cases h⟩, rfl, by decide, by intro b x y z h; cases h⟩

theorem witness_RoundingIsNearest : (0 : Int) < 2 ∧ 2 * |(5 : Int) - roundDiv 5 2 * 2| = 2 := by decide

theorem witness_NoticePosting :
    (({ State.reset with cfg := { State.reset.cfg with masks := ⟨0, 0, 0⟩ } } : State).cfg.masks.get .a).getLsbD
        (someNotice.kind.code - 1) = false ∧
      ((State.reset.cfg.masks.get .a).getLsbD (someNotice.kind.code - 1) = true ∧ (State.reset.port .a).queue.length < 16) ∧
      (List.replicate 16 someNotice = List.replicate 15 someNotice ++ [someNotice] ∧ (List.replicate 15 someNotice).length = 15) := by
  decide

/-- A run in READY of Port A with a BEGIN_VERTICAL waiting. -/
def beginning : State := { inRun (.rest .ready) [startEdge] with pending := [.beginVertical .a] }

theorem witness_steps : ∃ t, step beginning = .next t := ⟨_, rfl⟩

/-- A run EXPOSING its fourth point, with a STOP_POINT waiting. -/
def stopping : State :=
  { inRun (.exposing { inReview with points := List.replicate 3 (pointAt .six 479) } .six) [startEdge] with pending := [.stopPoint .a] }

theorem witness_StepKeepsBoundsAndLines :
    (QueuesBounded beginning ∧ RingsBounded beginning) ∧ (PointsBounded stopping ∧ ∃ t, step stopping = .next t) ∧
      LinesFollowRun beginning := by
  refine ⟨⟨fun p => by cases p <;> decide, ?_⟩, ⟨⟨by decide, ?_⟩, _, rfl⟩, ?_⟩
  · unfold RingsBounded; decide
  · rintro c h; cases h
    exact ⟨fun v h => by cases h; decide, fun v f h => by cases h; decide⟩
  · unfold LinesFollowRun; decide

theorem witness_StepKeepsSettingsSound : ThresholdsOrdered beginning ∧ BanksSound beginning := by
  have hb : BankValid factoryBank ∧ BankSized factoryBank := by
    refine ⟨⟨by decide, by unfold factoryBank; decide⟩, by decide, ?_⟩
    intro x hx
    simp only [factoryBank, List.mem_cons, List.not_mem_nil, or_false] at hx
    rcases hx with rfl | rfl <;> unfold RatingPoint.inRange <;> decide
  refine ⟨?_, hb, hb, by decide, ?_⟩
  · unfold ThresholdsOrdered thresholdsOrdered; decide
  · intro x hx; cases hx

theorem witness_StepKeepsWarningAndOutputs : AckForLevel beginning ∧ OutputsSound beginning := by
  refine ⟨fun r h => (by cases h), ?_⟩
  unfold OutputsSound Engine.sound; decide

/-- A log of two entries with cursors at its two ends. -/
def twoEntries : State :=
  let e : LogEntry := ⟨1, 900, 15, 1500, 1510, .float, ⟨false, false, false, false, false, false, false⟩, .normal⟩
  { State.reset with log := { State.reset.log with entries := [e, { e with seq := 2 }], nextSeq := 3
                                                   cursors := ⟨⟨1, 0⟩, ⟨2, 4⟩, ⟨3, 0⟩⟩ } }

theorem witness_StepKeepsLogSound : LogSound twoEntries ∧ ∃ t, step { twoEntries with pending := [.minuteClose] } = .next t := by
  refine ⟨⟨by decide, by decide, by decide, by decide, fun p => by cases p <;> decide⟩, _, rfl⟩

theorem witness_StepKeepsSaveSound :
    (SaveSound saving ∧ ∃ t, step { saving with pending := [.saveCompletion] } = .next t) ∧
      (saving.save ≠ none ∧ (∀ b x y z, Instr.setFloatStage .b 5 ≠ .powerOn b x y z) ∧ ∃ t, exec (.setFloatStage .b 5) saving = .next t) := by
  refine ⟨⟨⟨?_, fun p => by cases p <;> rfl⟩, _, rfl⟩, by decide, (by intro b x y z h; cases h), _, rfl⟩
  intro x h; rfl

theorem witness_StepKeepsSumsSound : SumsSound beginning := by
  intro c h
  cases h
  refine ⟨by decide, fun v h => (by cases h), fun h => (by cases h), fun h => (by cases h), fun _ _ => ⟨[], startEdge, rfl, fun v h => (by cases h), rfl, rfl⟩⟩

theorem witness_StepKeepsStationsSound : StationsSound beginning := by
  intro c h
  cases h
  exact ⟨by decide, fun _ => by decide, fun h => (by cases h), by decide, rfl⟩

theorem witness_ClockCount :
    unpowered.powered = false ∧ State.reset.powered = true ∧ State.reset.log.closeDue = false ∧
      (State.reset.rating.claim = none ∨ 0 < State.reset.rating.idle) ∧ ∀ r, State.reset.warning.ack = some r → 0 < r.timer :=
  ⟨rfl, rfl, rfl, .inl rfl, fun r h => by cases h⟩

/-- What the sensing unit holds in `sensed`, with a filter and a last accepted stage of 1,500 mm. -/
def sensing (stage : Int) (rejects : Nat) (reseat : Bool) : Sensing :=
  { (sensed stage).sensing with lastAccepted := some ⟨1500, false⟩, floatFilter := ⟨rejects, reseat⟩ }

/-- The sensing settings of the factory with a primary gauge. -/
def withPrimary (g : Gauge) : SensingSettings := { factorySensing with primary := g }

/-- A sensing unit whose two gauges offer 1,800 mm and a pressure stage, with a disagree count. -/
def bothGauges (press : Int) (count : Nat) : Sensing :=
  { sensing 1800 0 false with reading := some (10 * press), disagreeCount := count }

theorem witness_SampleOutcome :
    ((sampleExpiry factorySensing 1 (sensing 1800 0 false)).record.sample.source ≠ .held ∧
      (sampleExpiry factorySensing 1 (sensing 1801 0 false)).record.sample.source = .held) ∧
    (factorySensing.primary = .float ∧ (withPrimary .press).primary = .press) ∧
    (floatOffer factorySensing State.reset.sensing = none ∧ pressOffer factorySensing State.reset.sensing = none) ∧
    (floatOffer factorySensing (bothGauges 1769 59) = some ⟨1800, false⟩ ∧
      pressOffer factorySensing (bothGauges 1769 59) = some ⟨1769, false⟩ ∧ factorySensing.agreeMm < |(1800 : Int) - 1769| ∧
      (bothGauges 1769 59).disagree = false ∧ 59 ≤ (bothGauges 1769 59).disagreeCount ∧ (bothGauges 1769 58).disagreeCount < 59) ∧
    (pressOffer factorySensing (bothGauges 1770 0) = some ⟨1770, false⟩ ∧ |(1800 : Int) - 1770| ≤ factorySensing.agreeMm ∧
      (bothGauges 1770 0).agreeCount < 59) := by decide

/-- What a try accepts and rejects at its bounds: within the step limit, at the third reject, with a re-seat pending. -/
theorem witness_SampleOutcome_tries :
    (sensing 1800 0 false).lastAccepted.any (fun l => decide (300 < |(1800 : Int) - l.mm|)) = false ∧
    ((sensing 1801 1 false).floatFilter.reseat = false ∧ (sensing 1801 1 false).floatFilter.rejects < 2 ∧
      (sensing 1801 1 false).lastAccepted.any (fun l => decide (300 < |(1801 : Int) - l.mm|)) = true) ∧
    2 ≤ (sensing 1801 2 false).floatFilter.rejects ∧ (sensing 1801 0 true).floatFilter.reseat = true := by decide

/-- 01_stage_sensing.md, R12, R14: with PRIMARY PRESS the float gauge is the secondary. -/
theorem test_secondary :
    (sampleExpiry (withPrimary .press) 1 (bothGauges 2200 0)).record.sample.source = .float ∧
      (sampleExpiry (withPrimary .press) 1 (bothGauges 2200 0)).pressFilter = ⟨1, false⟩ := by decide

/-- The boundary sample has arrived. -/
def closeDue : State := { State.reset with log := { State.reset.log with closeDue := true } }

theorem witness_MinuteClose : State.reset.powered = true ∧ State.reset.log.closeDue = false ∧ closeDue.powered = true ∧
    closeDue.log.closeDue = true := by decide

/-- An entry in progress of one mean over a log. -/
def entryOver (entries : List LogEntry) (next : Nat) : State :=
  { State.reset with log := { State.reset.log with entry := { emptyEntry false with span := 1, sum := 1500, peak := some 1500 }
                                                   entries := entries, nextSeq := next } }

theorem witness_LogEntryWrite (e : LogEntry) :
    State.reset.log.entry.span = 0 ∧
    (0 < (entryOver [] 4294967295).log.entry.span ∧ (entryOver [] 4294967295).log.entries.length < 8192 ∧
      (entryOver [] 4294967295).log.nextSeq < 4294967296) ∧
    (0 < (entryOver (e :: List.replicate 8191 e) 9000).log.entry.span ∧
      (entryOver (e :: List.replicate 8191 e) 9000).log.entries = e :: List.replicate 8191 e ∧
      8192 ≤ (entryOver (e :: List.replicate 8191 e) 9000).log.entries.length ∧
      (entryOver (e :: List.replicate 8191 e) 9000).log.nextSeq < 4294967296) ∧
    (0 < (entryOver [] 4294967296).log.entry.span ∧ (entryOver [] 4294967296).log.nextSeq = 4294967296) := by
  refine ⟨by decide, by decide, ⟨Nat.one_pos, rfl, ?_, ?_⟩, by decide⟩
  · show 8192 ≤ (e :: List.replicate 8191 e).length
    rw [List.length_cons, List.length_replicate]
  · show 9000 < 4294967296
    decide

/-- A minute mean of a value. -/
def meanOf (v : Option Int) : MinuteMean := ⟨60, v, .float, ⟨false, false, false⟩, false, 60, 0, 0⟩

/-- The classes raised at a close. -/
def raisedAt (s : State) (v : Int) (rate : Option Int) : List TriggerClass :=
  (((s.evaluate (meanOf (some v)) rate .ok).warning.evaluation.map Evaluation.raised).getD []).map Raised.cls

/-- The warning unit one close before every class. -/
def poised (rate flow : HighNormal) : State :=
  { State.reset with warning := { State.reset.warning with
      level := .watch, up := 2, down := 14, rateState := rate, rateHigh := 2, rateLow := 2, flowState := flow, flowHigh := 2, flowLow := 2 } }

/-- The warning unit `poised .normal .normal` after closes at which the sensing was lost. -/
def regained : State :=
  let s := poised .normal .normal
  { s with warning := { s.warning with lostAtClose := true } }

/-- The warning unit `poised .normal flow` under a bank that gives 20,000 L/s, the factory Q_hi, at every stage. -/
def flowing (flow : HighNormal) : State :=
  let s := poised .normal flow
  { s with cfg := { s.cfg with bank := [⟨0, 20000⟩, ⟨10000, 20000⟩] } }

theorem witness_StageTriggers :
    (meanOf none).value = none ∧ (meanOf (some 1499)).value = some 1499 ∧ State.reset.warning.lostAtClose = false ∧
    (regained.warning.lostAtClose = true ∧ TriggerClass.sensorBack ∈ raisedAt regained 1500 none ∧
      TriggerClass.stageUp ∈ raisedAt regained 2200 none ∧ (∀ c ∈ raisedAt regained 1500 none, c = .sensorBack)) ∧
    (∀ k, 0 < State.reset.cfg.warning.pu.get k ∧ 0 < State.reset.cfg.warning.pd.get k) ∧
    raisedAt State.reset 1499 none = [] ∧ TriggerClass.stageUp ∉ raisedAt (poised .normal .normal) 1399 none ∧
    TriggerClass.stageUp ∈ raisedAt (poised .normal .normal) 2200 none ∧
    TriggerClass.stageDown ∈ raisedAt (poised .normal .normal) 1399 none ∧
    raisedAt (flowing .normal) 2200 none = [TriggerClass.stageUp] ++ .flowHigh :: [] := by
  refine ⟨rfl, rfl, rfl, by decide, fun k => by cases k <;> decide, by decide, by decide, by decide, by decide, by decide⟩

/-- 05_action_table_and_acknowledgment.md, the worked sequence of two classes at one close. -/
theorem test_two_classes :
    let s := flowing .normal
    let t := ({ s with warning := { s.warning with level := .normal } }).evaluate { meanOf (some 1500) with closeTime := 3606000 } none .ok
    t.warning.level = .warning ∧ t.warning.ack = some ⟨.warning, 3606000, 600, 0, 0⟩ ∧ t.log.interval = .m2 ∧
      (t.outputs.siren.engine.pattern.val, t.outputs.beacon.engine.pattern.val) = (2, 2) ∧
      ((t.port .a).queue.drop (s.port .a).queue.length).map (fun n => (n.kind, n.p1, n.p2, n.p3)) =
        [(.levelEvent, some (.cls .stageUp), some (.level .normal), some (.level .watch)),
         (.ackDue, some (.level .watch), some (.num 900), none),
         (.levelEvent, some (.cls .flowHigh), some (.level .watch), some (.level .warning)),
         (.ackDue, some (.level .warning), some (.num 600), some (.level .watch))] := by decide

theorem witness_RateAndFlowTriggers :
    ((meanOf (some 1500)).value = some 1500 ∧ SensorState.ok ≠ .lost) ∧
    ((poised .normal .normal).warning.rateState = .normal ∧ TriggerClass.rateHigh ∉ raisedAt (poised .normal .normal) 1500 (some 299)) ∧
    ((poised .high .normal).warning.rateState = .high ∧ TriggerClass.rateNormal ∉ raisedAt (poised .high .normal) 1500 (some 101)) ∧
    TriggerClass.rateHigh ∈ raisedAt (poised .normal .normal) 1500 (some 300) ∧
    TriggerClass.rateNormal ∈ raisedAt (poised .high .normal) 1500 (some 100) ∧
    ((poised .normal .normal).warning.flowState = .normal ∧ TriggerClass.flowHigh ∉ raisedAt (poised .normal .normal) 1500 none) ∧
    ((poised .normal .high).warning.flowState = .high ∧ TriggerClass.flowNormal ∈ raisedAt (poised .normal .high) 1500 none) ∧
    TriggerClass.flowHigh ∈ raisedAt (flowing .normal) 1500 none ∧
    ((flowing .high).warning.flowState = .high ∧ TriggerClass.flowNormal ∉ raisedAt (flowing .high) 1500 none) := by
  decide

theorem witness_ActionEntryTaken :
    ((State.reset.cfg.actions.get .normal).get .rateNormal).interval.getD State.reset.log.interval = State.reset.log.interval ∧
      ((State.reset.cfg.actions.get .normal).get .stageUp).interval.getD State.reset.log.interval ≠ State.reset.log.interval := by decide

theorem witness_RetrieveRequest :
    State.reset.run.ctx = none ∧ (inRun .opened []).run.ctx.map RunContext.phase = some .opened ∧
    (inRun (.rest (.review inReview)) [startEdge]).run.ctx.map RunContext.phase = some (.rest (.review inReview)) ∧
    (inRun (.exposing inReview .six) [startEdge]).run.ctx.map RunContext.phase = some (.exposing inReview .six) ∧
    (inRun (.exposing inReview .six) [startEdge]).cableway.exposure ≠ none := by decide

theorem witness_SetClock :
    State.reset.takes .a ∧ 4294967295 < 4294967296 ∧ (inRun .opened []).takes .a ∧ (inRun .opened []).run.ctx ≠ none ∧
    (∀ r, State.reset.warning.ack = some r → 0 < r.timer) ∧ State.reset.run.ctx = none ∧ State.reset.log.closeDue = false := by
  refine ⟨⟨rfl, rfl⟩, by decide, ⟨rfl, rfl⟩, by decide, fun r h => (by cases h), rfl, rfl⟩

theorem witness_LogReading :
    twoEntries.takes .b ∧ (1 ≤ 1 ∧ 1 ≤ 3) ∧ (1 ≤ 3 ∧ 3 ≤ 3) ∧ (4 = 0 ∨ 3 < 4) ∧ twoEntries.log.oldest ≤ twoEntries.log.nextSeq :=
  ⟨⟨rfl, rfl⟩, by decide, by decide, by decide, by decide⟩

theorem witness_AdvanceLog :
    twoEntries.takes .a ∧ 2 ≤ twoEntries.log.nextSeq - (twoEntries.log.cursors.get .a).seq ∧
      twoEntries.log.nextSeq - (twoEntries.log.cursors.get .a).seq < 3 := ⟨⟨rfl, rfl⟩, by decide, by decide⟩

theorem witness_QuadratureCounting : State.reset.powered = true := rfl

/-- A receiver state of the pressure line. -/
def receiving (mode : ReceiverMode) (n : Nat) (hold : Bool) : State :=
  { State.reset with sensing := { State.reset.sensing with receiver := ⟨mode, List.replicate n ⟨0x31, .none⟩, hold⟩ } }

theorem witness_PressureLine :
    ((receiving .collecting 15 false).powered = true ∧ (receiving .collecting 15 false).sensing.receiver.buffer.length < 16 ∧
      16 ≤ (receiving .collecting 16 false).sensing.receiver.buffer.length ∧ (receiving .collecting 0 true).sensing.receiver.breakHold = true ∧
      (receiving .dropping 0 false).sensing.receiver.mode = .dropping ∧ (receiving .collecting 0 false).sensing.receiver.buffer = []) ∧
    (parseLine (receiving .collecting 6 false).sensing.receiver.buffer = some 1111110 ∧
      parseLine (receiving .collecting 7 false).sensing.receiver.buffer = none) ∧
    (1 ≤ [(9 : Fin 10)].length ∧ [(9 : Fin 10), 0, 0, 0, 0, 0].length ≤ 6 ∧ 6 < [(9 : Fin 10), 0, 0, 0, 0, 0, 0].length) ∧
    ((⟨0x31, .framing⟩ : LineChar) ∈ [(⟨0x31, .framing⟩ : LineChar)] ∧ (⟨0x31, .framing⟩ : LineChar).mark ≠ .none) := by decide

/-- A pressure reading of an age. -/
def reading (age : Nat) : State := { State.reset with sensing := { State.reset.sensing with reading := some 15120, readingAge := age } }

theorem witness_FitStages :
    saving.takes .b ∧ saving.save ≠ none ∧ State.reset.takes .a ∧ State.reset.save = none ∧ State.reset.sensing.reading = none ∧
    ((reading 16).takes .a ∧ (reading 16).cfg.sensing.staleS < ((reading 16).sensing.readingAge : Int)) ∧
    ((reading 15).takes .a ∧ (reading 15).sensing.reading = some 15120 ∧
      ((reading 15).sensing.readingAge : Int) ≤ (reading 15).cfg.sensing.staleS) :=
  ⟨⟨rfl, rfl⟩, by decide, ⟨rfl, rfl⟩, rfl, rfl, ⟨⟨rfl, rfl⟩, by decide⟩, ⟨rfl, rfl⟩, rfl, by decide⟩

theorem witness_OptionalSettings :
    saving.takes .c ∧ saving.save ≠ none ∧ State.reset.takes .c ∧ State.reset.save = none ∧
    (⟨some .outside, none, none, none, none, none, none⟩ : SensingArgs).primary = some .outside ∧
    (⟨some (.named .press), none, none, none, none, none, none⟩ : SensingArgs).primary = some (.named .press) ∧
    ((⟨none, none, none, none, none, none, none⟩ : SensingArgs).primary = none ∧ Gauge.float = State.reset.cfg.sensing.primary) ∧
    (0 ∉ [1, 2, 5, 10, 15, 30, 60] ∧ some 60 = some Machine.Interval.m60.minutes ∧ Machine.Interval.m15 = State.reset.cfg.log.defaultInterval) :=
  ⟨⟨rfl, rfl⟩, by decide, ⟨rfl, rfl⟩, rfl, rfl, rfl, by decide, by decide⟩

theorem sixPoints_valid : BankValid sixPoints ∧ BankSized sixPoints := by
  refine ⟨⟨by decide, by unfold sixPoints; decide⟩, by decide, ?_⟩
  intro x hx
  simp only [sixPoints, List.mem_cons, List.not_mem_nil, or_false] at hx
  rcases hx with rfl | rfl | rfl | rfl | rfl | rfl <;> unfold RatingPoint.inRange <;> decide

theorem witness_RatedDischarge :
    (BankValid sixPoints ∧ BankSized sixPoints) ∧ sixPoints = ⟨300, 0⟩ :: sixPoints.tail ∧ (300 : Int) ≤ 300 ∧
    (sixPoints = [⟨300, 0⟩] ++ ⟨600, 120⟩ :: ⟨1000, 780⟩ :: sixPoints.drop 3 ∧ (600 : Int) < 601 ∧ (1000 : Int) ≤ 1000) ∧
    (sixPoints = sixPoints.take 4 ++ [⟨1600, 4600⟩, ⟨2400, 15100⟩] ∧ (2400 : Int) < 2401) :=
  ⟨sixPoints_valid, by decide, by decide, by decide, by decide⟩

/-- Port A edits a bank. -/
def editing (bank : List RatingPoint) (s : State) : State := { s with rating := { s.rating with alternate := bank, claim := some .a, idle := 7 } }

/-- A bank whose third point has the stage of the second. -/
def levelPoint : List RatingPoint := [⟨300, 0⟩, ⟨600, 120⟩, ⟨600, 121⟩]

/-- A bank whose third point has a discharge below that of the second. -/
def fallingPoint : List RatingPoint := [⟨300, 0⟩, ⟨600, 120⟩, ⟨601, 119⟩]

/-- Both banks have their first failure at the third point. -/
theorem failing_pairs :
    levelPoint = [⟨300, 0⟩] ++ ⟨600, 120⟩ :: ⟨600, 121⟩ :: [] ∧ fallingPoint = [⟨300, 0⟩] ++ ⟨600, 120⟩ :: ⟨601, 119⟩ :: [] ∧
      ([⟨300, 0⟩] ++ [⟨600, 120⟩] : List RatingPoint).Pairwise (fun x y => x.h < y.h ∧ x.q ≤ y.q) ∧
      ((600 : Int) ≤ 600 ∧ (600 : Int) < 601 ∧ (119 : Int) < 120) := by decide

theorem witness_RatingEditing (bank : List RatingPoint) (h : bank.length = 32) :
    State.reset.takes .b ∧ State.reset.rating.claim = none ∧ (editing sixPoints State.reset).takes .a ∧
    ((editing sixPoints State.reset).rating.claim = some .a ∧ 5 < sixPoints.length ∧ 6 = sixPoints.length ∧ 6 < 32 ∧
      sixPoints.length < 7 ∧ 6 ≤ sixPoints.length) ∧ BankValid sixPoints ∧ ([] : List RatingPoint).length < 2 ∧
    (fallingPoint = [⟨300, 0⟩] ++ ⟨600, 120⟩ :: ⟨601, 119⟩ :: [] ∧
      ([⟨300, 0⟩] ++ [⟨600, 120⟩] : List RatingPoint).Pairwise (fun x y => x.h < y.h ∧ x.q ≤ y.q)) ∧
    ((editing sixPoints State.reset).takes .b ∧ Port.a ≠ .b) ∧ (editing bank State.reset).rating.alternate.length = 32 :=
  ⟨⟨rfl, rfl⟩, rfl, ⟨rfl, rfl⟩, by decide, sixPoints_valid.1, by decide, ⟨failing_pairs.2.1, failing_pairs.2.2.1⟩,
    ⟨⟨rfl, rfl⟩, by decide⟩, h⟩

theorem witness_RatingEditing_full : (List.replicate 32 (⟨5, 5⟩ : RatingPoint)).length = 32 := by decide

theorem witness_RatingCancel : (editing sixPoints State.reset).takes .a ∧ (editing sixPoints State.reset).rating.claim = some .a ∧
    State.reset.takes .a ∧ State.reset.rating.claim ≠ some .a := ⟨⟨rfl, rfl⟩, rfl, ⟨rfl, rfl⟩, by decide⟩

/-- Port B edits while the settings are saved for Port A. -/
def editingWhileSaving : State := { saving with rating := ⟨sixPoints, 0, some .b, 7⟩ }

theorem witness_RatingCommit :
    (State.reset.takes .a ∧ State.reset.rating.claim ≠ some .a) ∧
    (editingWhileSaving.takes .b ∧ editingWhileSaving.rating.claim = some .b ∧ editingWhileSaving.save ≠ none) ∧
    ((editing [] State.reset).takes .a ∧ (editing [] State.reset).save = none ∧ ¬ BankValid (editing [] State.reset).rating.alternate ∧
      (editing [] State.reset).rating.alternate.length < 2) ∧
    (levelPoint = [⟨300, 0⟩] ++ ⟨600, 120⟩ :: ⟨600, 121⟩ :: [] ∧ fallingPoint = [⟨300, 0⟩] ++ ⟨600, 120⟩ :: ⟨601, 119⟩ :: [] ∧
      ([⟨300, 0⟩] ++ [⟨600, 120⟩] : List RatingPoint).Pairwise (fun x y => x.h < y.h ∧ x.q ≤ y.q)) ∧
    ((editing sixPoints State.reset).takes .a ∧ BankValid (editing sixPoints State.reset).rating.alternate ∧
      (editing sixPoints State.reset).rating.generation ≤ 65535) :=
  ⟨⟨⟨rfl, rfl⟩, by decide⟩, ⟨⟨rfl, rfl⟩, rfl, by decide⟩, ⟨⟨rfl, rfl⟩, rfl, fun h => absurd h.1 (by decide), by decide⟩, by decide,
    ⟨rfl, rfl⟩, sixPoints_valid.1, by decide⟩

/-- 03_rating_tables.md, R53, R55: the first failure of a bank that is committed. -/
theorem test_commit_failure :
    ((after (.ratingCommit .a) (editing levelPoint State.reset)).port .a).slot.map Response.body =
        some (.ratingInvalid (some ⟨.stageOrder, some 2⟩)) ∧
      ((after (.ratingCommit .a) (editing fallingPoint State.reset)).port .a).slot.map Response.body =
        some (.ratingInvalid (some ⟨.dischargeOrder, some 2⟩)) := by decide

theorem witness_ForceLevel : State.reset.takes .b ∧ 3 < 4 := ⟨⟨rfl, rfl⟩, by decide⟩

/-- A request that sets nothing but the siren pattern of level DANGER. -/
def sirenOf (n : Nat) : WarningArgs :=
  let no : PerStep (Option Int) := ⟨none, none, none⟩
  ⟨no, no, no, no, none, none, none, none, none, none, ⟨none, none, none, some n⟩, ⟨none, none, none, none⟩⟩

theorem witness_SetWarningSettings :
    saving.takes .b ∧ saving.save ≠ none ∧ State.reset.takes .a ∧ State.reset.save = none ∧
    (∃ l n, ((sirenOf 8).siren.get l = some n ∨ (sirenOf 8).beacon.get l = some n) ∧ 7 < n) ∧
    ¬ ∃ l n, ((sirenOf 7).siren.get l = some n ∨ (sirenOf 7).beacon.get l = some n) ∧ 7 < n := by
  refine ⟨⟨rfl, rfl⟩, by decide, ⟨rfl, rfl⟩, rfl, ⟨.danger, 8, .inl rfl, by decide⟩, ?_⟩
  rintro ⟨l, n, h | h, hn⟩ <;> cases l <;> cases h
  exact absurd hn (by decide)

theorem witness_ActionAndAckSettings :
    saving.takes .b ∧ saving.save ≠ none ∧ State.reset.takes .a ∧ State.reset.save = none ∧ 3 < 4 ∧
    (∃ n, (⟨some 4, none, none, none, .named true, .named false, .named false⟩ : ActionArgs).next = some n ∧ 3 < n) ∧
    (∃ n, (⟨none, some 8, none, none, .named true, .named false, .named false⟩ : ActionArgs).siren = some n ∧ 7 < n) ∧
    (∃ n, (⟨none, none, none, some 0, .named true, .named false, .named false⟩ : ActionArgs).interval = some n ∧
      n ∉ [1, 2, 5, 10, 15, 30, 60]) ∧
    (⟨none, none, none, none, .named true, .outside, .named false⟩ : ActionArgs).ack = .outside ∧
    (∃ l n, (⟨none, none, none, some 8⟩ : PerLevel (Option Nat)).get l = some n ∧ 7 < n) ∧
    ∀ l n, (⟨none, none, none, some 7⟩ : PerLevel (Option Nat)).get l = some n → ¬ 7 < n := by
  refine ⟨⟨rfl, rfl⟩, by decide, ⟨rfl, rfl⟩, rfl, by decide, ⟨4, rfl, by decide⟩, ⟨8, rfl, by decide⟩, ⟨0, rfl, by decide⟩, rfl,
    ⟨.danger, 8, rfl, by decide⟩, ?_⟩
  intro l n h hn
  cases l <;> cases h
  exact absurd hn (by decide)

/-- A pending acknowledgment of level WATCH with a deadline timer. -/
def acking (timer : Nat) : State :=
  { State.reset with warning := { State.reset.warning with level := .watch, ack := some ⟨.watch, 0, timer, 254, 9⟩ } }

/-- The edit claim of Port A with an idle timer. -/
def idling (idle : Nat) : State := { State.reset with rating := { State.reset.rating with claim := some .a, idle := idle } }

theorem witness_AckAndTimers :
    State.reset.takes .a ∧ 3 < 4 ∧ State.reset.warning.ack = none ∧ (acking 5).takes .a ∧
    ((acking 5).warning.ack.map AckRecord.level = some .watch ∧ Machine.Level.watch ≠ .danger) ∧
    ((acking 0).powered = true ∧ (acking 0).warning.ack.map AckRecord.timer = some 0) ∧
    (acking 1).warning.ack.any (fun r => decide (0 < r.timer)) = true ∧
    ((idling 0).powered = true ∧ (idling 0).rating.claim = some .a ∧ (idling 0).rating.idle = 0 ∧ 0 < (idling 1).rating.idle) :=
  ⟨⟨rfl, rfl⟩, by decide, rfl, ⟨rfl, rfl⟩, by decide, by decide, by decide, by decide⟩

theorem witness_OutputTestRequest :
    State.reset.takes .c ∧ (0 = 0 ∨ 7 < 8) ∧ ((7 : Fin 8).val = 7 ∧ (State.reset.cfg.patterns.get? 7).isSome = true) ∧
    State.reset.warning.level = .normal ∧ (acking 5).takes .c ∧ (acking 5).warning.level ≠ .normal ∧
    State.reset.outputs.siren.test = none ∧ (after (.outputTest .c (.named .siren) 7 2) State.reset).outputs.siren.test ≠ none :=
  ⟨⟨rfl, rfl⟩, by decide, by decide, rfl, ⟨rfl, rfl⟩, by decide, rfl, by decide⟩

theorem witness_PatternAndMeterTables :
    saving.takes .b ∧ saving.save ≠ none ∧ State.reset.takes .a ∧ State.reset.save = none ∧ (0 = 0 ∨ 7 < 8) ∧ (1 ≤ 1 ∧ 7 ≤ 7) ∧
    (State.reset.cfg.patterns.get? 7).isSome = true ∧ (meterOf 0 = none ∧ meterOf 5 = none ∧ meterOf 4 = some .m4) ∧
    [((1, 2, 3) : Int × Int × Int), (5, 2, 3)].length ≤ 2 ∧
    (([((1, 2, 3) : Int × Int × Int), (5, 2, 3)].map (fun x => clamp 1 1000000 x.1)).Pairwise (· < ·) ∧
      ¬ ([((1, 2, 3) : Int × Int × Int), (0, 2, 3)].map (fun x => clamp 1 1000000 x.1)).Pairwise (· < ·)) :=
  ⟨⟨rfl, rfl⟩, by decide, ⟨rfl, rfl⟩, rfl, by decide, by decide, by decide, by decide, by decide, by decide⟩

/-- An engine under an output test of a pattern in a phase. -/
def testing (pattern : Fin 8) (phase : EnginePhase) (count bursts : Nat) : State :=
  { State.reset with outputs := { State.reset.outputs with
      siren := ⟨⟨pattern, phase, 100, count, decide (phase = .on)⟩, some ⟨pattern, bursts, 0, .c⟩⟩ } }

theorem witness_PhaseExpiry :
    State.reset.powered = true ∧ State.reset.outputs.siren.engine.phase = .idle ∧
    ((testing 7 .on 1 2).outputs.siren.engine.phase ≠ .idle ∧ 99 < (testing 7 .on 1 2).outputs.siren.engine.timer ∧
      (testing 7 .on 1 2).outputs.siren.engine.timer ≤ 100) ∧
    ((State.reset.cfg.patterns.get? 7).map Pattern.burst = some 3 ∧ (testing 7 .off 3 2).outputs.siren.engine.phase = .off) ∧
    ((testing 7 .off 3 2).outputs.siren.test.map OutputTest.bursts = some 2 ∧
      (testing 7 .off 3 1).outputs.siren.test.map OutputTest.bursts = some 1 ∧
      (testing 7 .off 3 1).outputs.siren.test.map OutputTest.saved = some 0) := by decide

/-- An exposure of 50 s in EXPOSING that has run 20 s. -/
def exposing : State := inRun (.exposing inReview .six) [startEdge]

theorem witness_ClosuresAndExpiries :
    exposing.powered = true ∧ exposing.run.ctx.map RunContext.phase = some (.exposing inReview .six) ∧
    exposing.cableway.exposure.all (fun x => decide (x.elapsed + 30000 ≤ x.target)) = true ∧
    exposing.cableway.exposure.any (fun x => decide (x.target < x.elapsed + 30001)) = true ∧
    exposing.cableway.exposure.any (fun x => decide (x.target = x.elapsed + 30000)) = true ∧
    exposing.cableway.exposure.all (fun x => decide (x.elapsed + 29999 < x.target)) = true ∧
    exposing.cableway.exposure.all (fun x => decide (x.elapsed + 30000 = x.target)) = true := by decide

theorem witness_PositionRequests : State.reset.takes .b := ⟨rfl, rfl⟩

theorem witness_OpenRun :
    ((inRun .opened []).takes .a ∧ (inRun .opened []).run.ctx.map RunContext.holder = some (some .a)) ∧
    ((inRun .opened []).takes .b ∧ (inRun .opened []).run.ctx.map RunContext.holder ≠ some (some .b)) ∧
    (State.reset.takes .a ∧ State.reset.run.ctx = none ∧ State.reset.sensing.record.sample.value = none) ∧
    ((sensed 1512).takes .a ∧ (sensed 1512).run.ctx = none ∧ (sensed 1512).sensing.record.sample.value ≠ none ∧
      (sensed 1512).run.counter ≤ 4294967295 ∧ meterOf 1 = some .m1 ∧ 4 < 5) :=
  ⟨⟨⟨rfl, rfl⟩, by decide⟩, ⟨⟨rfl, rfl⟩, by decide⟩, ⟨⟨rfl, rfl⟩, rfl, rfl⟩, ⟨rfl, rfl⟩, rfl, by decide, by decide, rfl, by decide⟩

/-- The run of `inRun .opened []` with another holder and quiet count. -/
def heldBy (p : Option Port) (quiet : Nat) : State :=
  let s := inRun .opened []
  { s with run := { s.run with ctx := s.run.ctx.map (fun c => { c with holder := p, quiet := quiet }) } }

theorem witness_TakeRun :
    (State.reset.takes .a ∧ State.reset.run.ctx = none) ∧ ((heldBy none 5).takes .a ∧ (heldBy none 5).run.ctx.map RunContext.holder = some none) ∧
    ((heldBy (some .b) 120).takes .a ∧ Port.b ≠ .a ∧ (heldBy (some .b) 120).run.ctx.map RunContext.holder = some (some .b) ∧
      (heldBy (some .b) 120).run.ctx.any (fun c => decide (120 ≤ c.quiet)) = true) ∧
    ((heldBy (some .b) 119).takes .a ∧ (heldBy (some .b) 119).run.ctx.any (fun c => decide (c.quiet < 120)) = true) :=
  ⟨⟨⟨rfl, rfl⟩, rfl⟩, ⟨⟨rfl, rfl⟩, by decide⟩, ⟨⟨rfl, rfl⟩, by decide, by decide, by decide⟩, ⟨rfl, rfl⟩, by decide⟩

theorem witness_RunRequestChecks :
    (∃ r, requestOf (.markBed .a) = some r ∧ runStatesOf (.markBed .a) ≠ [] ∧ State.reset.takes r.port ∧ State.reset.run.ctx = none) ∧
    (∃ r, requestOf (.markBed .b) = some r ∧ (inRun .opened []).takes r.port ∧
      (inRun .opened []).run.ctx.map RunContext.holder ≠ some (some r.port)) ∧
    (∃ r, requestOf (.markBed .a) = some r ∧ (inRun .opened []).takes r.port ∧
      (inRun .opened []).run.ctx.map RunContext.holder = some (some r.port) ∧
      (inRun .opened []).runState ∉ runStatesOf (.markBed .a)) :=
  ⟨⟨_, rfl, by decide, ⟨rfl, rfl⟩, rfl⟩, ⟨_, rfl, ⟨rfl, rfl⟩, by decide⟩, ⟨_, rfl, ⟨rfl, rfl⟩, rfl, by decide⟩⟩

/-- The run of Port A in a phase is taken and held by Port A. -/
theorem inRun_holds (ph : RunPhase) (vs : List Vertical) :
    (inRun ph vs).takes .a ∧ ∃ c, (inRun ph vs).holds .a c ∧ c.phase = ph := ⟨⟨rfl, rfl⟩, _, ⟨rfl, rfl⟩, rfl⟩

theorem witness_EdgeAndBed :
    (∃ c, (inRun .opened []).takes .a ∧ (inRun .opened []).holds .a c ∧ c.phase = .opened) ∧
    (∃ c, (inRun (.rest .ready) [startEdge]).takes .a ∧ (inRun (.rest .ready) [startEdge]).holds .a c ∧ c.phase = .rest .ready) ∧
    (∃ c, (inRun (.rest (.sounding inReview)) [startEdge]).takes .a ∧ (inRun (.rest (.sounding inReview)) [startEdge]).holds .a c ∧
      c.phase = .rest (.sounding inReview)) :=
  ⟨⟨_, ⟨rfl, rfl⟩, ⟨rfl, rfl⟩, rfl⟩, ⟨_, ⟨rfl, rfl⟩, ⟨rfl, rfl⟩, rfl⟩, ⟨_, ⟨rfl, rfl⟩, ⟨rfl, rfl⟩, rfl⟩⟩

/-- A list of n verticals before a last one. -/
def listOf (n : Nat) : List Vertical := List.replicate n startEdge ++ [interior n 4000 1200 479 1520]

theorem witness_BeginVertical :
    (∃ c, (inRun (.rest .ready) (listOf 46)).takes .a ∧ (inRun (.rest .ready) (listOf 46)).holds .a c ∧ c.phase = .rest .ready ∧
      46 ≤ (List.replicate 46 startEdge).length) ∧
    (∃ c, (inRun (.rest .ready) (listOf 45)).takes .a ∧ (inRun (.rest .ready) (listOf 45)).holds .a c ∧ c.phase = .rest .ready ∧
      c.direction = some .ascending ∧ (List.replicate 45 startEdge).length < 46) ∧
    (∃ c, (inRun (.rest .ready) (listOf 0)).takes .a ∧ (inRun (.rest .ready) (listOf 0)).holds .a c ∧ c.phase = .rest .ready ∧
      c.direction = none) :=
  ⟨⟨_, ⟨rfl, rfl⟩, ⟨rfl, rfl⟩, rfl, by decide⟩, ⟨_, ⟨rfl, rfl⟩, ⟨rfl, rfl⟩, rfl, rfl, by decide⟩, ⟨_, ⟨rfl, rfl⟩, ⟨rfl, rfl⟩, rfl, rfl⟩⟩

theorem witness_Points :
    (∃ c, (inRun (.rest (.points inReview)) [startEdge]).takes .a ∧ (inRun (.rest (.points inReview)) [startEdge]).holds .a c ∧
      c.phase = .rest (.points inReview)) ∧
    (3 ∉ [0, 2, 6, 8] ∧ 8 ∈ [0, 2, 6, 8] ∧ fractionOf 8 = some .eight ∧ inReview.points.length < 4 ∧
      4 ≤ { inReview with points := List.replicate 4 (pointAt .six 479) }.points.length) ∧
    (∃ c, exposing.takes .a ∧ exposing.holds .a c ∧ c.phase = .exposing inReview .six ∧ exposing.cableway.exposure ≠ none) :=
  ⟨⟨_, ⟨rfl, rfl⟩, ⟨rfl, rfl⟩, rfl⟩, by decide, ⟨_, ⟨rfl, rfl⟩, ⟨rfl, rfl⟩, rfl, by decide⟩⟩

theorem witness_ReviewRequests :
    (∃ c, (inRun (.rest (.points inReview)) [startEdge]).takes .a ∧ (inRun (.rest (.points inReview)) [startEdge]).holds .a c ∧
      c.phase = .rest (.points inReview)) ∧
    (∃ c, (inRun (.rest (.review inReview)) [startEdge]).takes .a ∧ (inRun (.rest (.review inReview)) [startEdge]).holds .a c ∧
      c.phase = .rest (.review inReview)) ∧
    (∃ i, (⟨none, none, none, some 1, none⟩ : AlterArgs).excl = some i ∧ inReview.points.length ≤ i) ∧
    (∀ i, (⟨none, none, none, some 0, none⟩ : AlterArgs).excl = some i → ¬ inReview.points.length ≤ i) := by
  refine ⟨⟨_, ⟨rfl, rfl⟩, ⟨rfl, rfl⟩, rfl⟩, ⟨_, ⟨rfl, rfl⟩, ⟨rfl, rfl⟩, rfl⟩, ⟨1, rfl, by decide⟩, ?_⟩
  intro i h
  cases h
  decide

theorem witness_Velocities :
    (0 < 40 ∧ (factoryMeters.get .m1).segs = [] ++ (factoryMeters.get .m1).segs) ∧
    (∃ b : Int, ((factoryMeters.get .m1).segs.head?.bind MeterSegment.bound) = some b ∧ roundDiv (1000000 * 40) (1 * 50000) ≤ b) ∧
    ((pointAt .six 479).fraction = .six ∧ (pointAt .six 479).result.marks.discarded = false ∧ (pointAt .six 479).excluded = false) ∧
    (∀ x ∈ [{ pointAt .six 5 with excluded := true }, pointAt .two 5], x.fraction = .six →
      x.result.marks.discarded = true ∨ x.excluded = true) ∧
    (inReview.method = some .one ∧ { inReview with method := none }.method = none) := by
  refine ⟨by decide, ⟨_, rfl, by decide⟩, by decide, by decide, by decide⟩

theorem witness_AcceptVertical :
    (∃ c, (inRun (.rest (.review inReview)) [startEdge]).takes .a ∧ (inRun (.rest (.review inReview)) [startEdge]).holds .a c ∧
      c.phase = .rest (.review inReview)) ∧
    (inReview.method = some .one ∧ inReview.complete = true ∧ { inReview with points := [] }.complete = false) ∧
    ([startEdge] = [] ++ [startEdge] ∧ startEdge.kind = .startEdge) ∧
    ((interior 1 4000 1200 479 1520).kind = .interior ∧ [startEdge] ≠ []) :=
  ⟨⟨_, ⟨rfl, rfl⟩, ⟨rfl, rfl⟩, rfl⟩, by decide, by decide, by decide⟩

/-- A list with three interior verticals. -/
def threeInteriors : List Vertical := [startEdge, interior 1 4000 1200 479 1520, interior 2 6000 1800 612 1534, interior 3 8000 900 298 1541]

theorem witness_MarkEdgeEnd :
    (∃ c, (inRun (.rest .ready) threeInteriors).takes .a ∧ (inRun (.rest .ready) threeInteriors).holds .a c ∧ c.phase = .rest .ready ∧
      c.direction = some .ascending) ∧
    ((listOf 1).filter (fun v => decide (v.kind = .interior))).length < 3 ∧
    3 ≤ (threeInteriors.filter (fun v => decide (v.kind = .interior))).length ∧
    (threeInteriors = threeInteriors.take 2 ++ [interior 2 6000 1800 612 1534, interior 3 8000 900 298 1541] ∧
      (interior 3 8000 900 298 1541).kind = .interior) :=
  ⟨⟨_, ⟨rfl, rfl⟩, ⟨rfl, rfl⟩, rfl, rfl⟩, by decide, by decide, by decide⟩

theorem witness_CloseAndAbandon :
    (∃ c, (finished workedList).takes .a ∧ (finished workedList).holds .a c ∧ c.phase = .finished) ∧
    ∃ c, exposing.takes .a ∧ exposing.holds .a c := ⟨⟨_, ⟨rfl, rfl⟩, ⟨rfl, rfl⟩, rfl⟩, ⟨_, ⟨rfl, rfl⟩, ⟨rfl, rfl⟩⟩⟩

/-- A run RETRIEVING at a level. -/
def retrieving (l : Machine.Level) : State :=
  let s := inRun (.retrieving .ready) [startEdge]
  { s with warning := { s.warning with level := l } }

theorem witness_ResumeStopLevelAndGetRun :
    (∃ c, (retrieving .danger).takes .a ∧ (retrieving .danger).holds .a c ∧ c.phase = .retrieving .ready ∧
      (retrieving .danger).cfg.stopLevel.toNat ≤ (retrieving .danger).warning.level.toNat) ∧
    (∃ c, (retrieving .warning).takes .a ∧ (retrieving .warning).holds .a c ∧ c.phase = .retrieving .ready ∧
      (retrieving .warning).warning.level.toNat < (retrieving .warning).cfg.stopLevel.toNat) ∧
    (saving.takes .b ∧ saving.save ≠ none) ∧ (State.reset.takes .a ∧ State.reset.save = none ∧ State.reset.run.ctx = none) ∧ 3 < 4 :=
  ⟨⟨_, ⟨rfl, rfl⟩, ⟨rfl, rfl⟩, rfl, by decide⟩, ⟨_, ⟨rfl, rfl⟩, ⟨rfl, rfl⟩, rfl, by decide⟩, ⟨⟨rfl, rfl⟩, by decide⟩,
    ⟨⟨rfl, rfl⟩, rfl, rfl⟩, by decide⟩

/-- A response without fields. -/
def bareResponse : Response := ⟨.ok, false, false, 0x48, .empty⟩

/-- Port A in an exchange. -/
def exchanging (out : Frame) (slot : Option Response) : State :=
  { State.reset with ports := State.reset.ports.set .a { State.reset.port .a with exchange := some ⟨out, []⟩, slot := slot } }

theorem witness_Exchanges :
    (State.reset.powered = true ∧ (State.reset.port .a).exchange = none ∧ (State.reset.port .a).inProgress = none ∧
      (State.reset.port .a).slot = none ∧ (saving.port .a).inProgress = some 0x08) ∧
    ((exchanging .null none).port .a).exchange = some ⟨.null, []⟩ ∧
    (((exchanging (.response bareResponse) (some bareResponse)).port .a).exchange = some ⟨.response bareResponse, []⟩ ∧
      (Frame.response bareResponse).bytes.length ≤ 5) ∧
    ((0x39 : Byte).toNat = 57 ∧ (0x38 : Byte).toNat = 56) ∧
    (0x0F#8 ++ 0xCC#8 ≠ crc [0x10, 0x00] ∧ fieldlessRequest .a 0x10 = some (.getStage .a) ∧ ∃ r, requestOf (.getStage .a) = some r) := by
  refine ⟨by decide, by decide, by decide +kernel, by decide, by decide +kernel, rfl, _, rfl⟩

theorem witness_Exchanges_fields :
    (Frame.null.bytes.length = 5 ∧ (5 : Nat) < 6) ∧ (0x03 : Byte).toNat = 3 ∧ [(0x00 : Byte), 0x03, 0xFF, 0xFF].length = 4 ∧
    (∃ r, requestOf (.setNoticeMask .a (0x00#8 ++ 0x03#8 ++ 0xFF#8 ++ 0xFF#8)) = some r) ∧
    fieldlessRequest .a 0x11 = none ∧ (0x11 : Byte).toNat ≠ 3 :=
  ⟨by decide +kernel, rfl, rfl, ⟨_, rfl⟩, rfl, by decide⟩

/-- 10_station_ports.md, R175: the NULL frame, then fill bytes. -/
theorem test_fill_bytes : Frame.null.shifted 6 = [0x00, 0x00, 0x00, 0xCC, 0x9C, 0x00] := by decide +kernel

/-- 10_station_ports.md, R178, R192: a SET_NOTICE_MASK of three bytes is refused, one of four is taken. -/
theorem test_mask_lengths :
    parseRequest .a 0x03 [0x03, 0xFF, 0xFF] = none ∧
      parseRequest .a 0x03 [0x00, 0x03, 0xFF, 0xFF] = some (.setNoticeMask .a 0x0003FFFF) := by decide +kernel

theorem witness_Exchanges_checks :
    (crc [0x10, 0x00]).extractLsb' 8 8 ++ (crc [0x10, 0x00]).extractLsb' 0 8 = crc [0x10, 0x00] ∧
    (crc [0x05, 0x00]).extractLsb' 8 8 ++ (crc [0x05, 0x00]).extractLsb' 0 8 = crc [0x05, 0x00] := by decide +kernel

theorem witness_NullRequest :
    (exchanging .null none).powered = true ∧ ((exchanging .null none).port .a).exchange = some ⟨.null, []⟩ ∧
    ((exchanging (.response bareResponse) (some bareResponse)).port .a).exchange = some ⟨.response bareResponse, []⟩ ∧
    ((Frame.response bareResponse).bytes.length ≤ 4 + [(0 : Byte)].length ∧
      4 + ([] : List Byte).length < (Frame.response bareResponse).bytes.length) := by
  refine ⟨rfl, rfl, rfl, by decide +kernel⟩

theorem witness_PortRequests :
    (State.reset.takes .a ∧ (State.reset.port .a).queue ≠ []) ∧
    ((inRun .opened []).takes .a ∧ (after (.clearPort .a) (inRun .opened [])).takes .a ∧ ((after (.clearPort .a) (inRun .opened [])).port .a).queue = []) ∧
    (saving.takes .b ∧ saving.save ≠ none ∧ State.reset.save = none) ∧ ((0x0003FFFF : Word32).toNat < 262144 ∧ 262144 ≤ (0x00040000 : Word32).toNat) :=
  ⟨⟨⟨rfl, rfl⟩, by decide⟩, ⟨⟨rfl, rfl⟩, ⟨rfl, rfl⟩, by decide⟩, ⟨⟨rfl, rfl⟩, by decide, rfl⟩, by decide⟩

theorem witness_SaveCycle :
    (saving.takes .b ∧ saving.save ≠ none) ∧ (State.reset.takes .a ∧ State.reset.save = none) ∧
      (saving.powered = true ∧ saving.save = some ⟨.a, 0, 2, false⟩) := ⟨⟨⟨rfl, rfl⟩, by decide⟩, ⟨⟨rfl, rfl⟩, rfl⟩, rfl, rfl⟩

theorem witness_PowerLossAndPowerOn : State.reset.powered = true := rfl

theorem witness_Restart : saving.takes .b ∧ (inRun .opened []).takes .c := ⟨⟨rfl, rfl⟩, ⟨rfl, rfl⟩⟩

theorem witness_StatusReads : (inRun .opened []).takes .c := ⟨rfl, rfl⟩

theorem witness_ReadsWithFields :
    (editing sixPoints State.reset).takes .a ∧ BankValid (editing sixPoints State.reset).rating.alternate ∧
    ¬ BankValid State.reset.rating.alternate ∧ (31 < 32 ∧ 32 ≤ 32) ∧
    (workedResults = [] ++ workedResults ∧ workedResults.length = 1 ∧ 0 ≤ 7 ∧ 7 < 8) ∧
    ((finished workedList).takes .b ∧ (finished workedList).run.verticals.length ≤ 5 ∧
      (finished workedList).run.verticals[4]?.isSome = true) ∧
    (inReview.points = [] ++ pointAt .six 479 :: [] ∧ ([] : List Point).length ≤ 3 ∧ inReview.points.length ≤ 1 ∧ 3 < 4) ∧
    ((after (.closeRun .a) (finished workedList)).takes .b ∧ (after (.closeRun .a) (finished workedList)).run.ctx = none ∧
      (after (.closeRun .a) (finished workedList)).run.listTotal = some 3889200) :=
  ⟨⟨rfl, rfl⟩, sixPoints_valid.1, fun h => absurd h.1 (by decide), by decide, by decide, ⟨⟨rfl, rfl⟩, by decide, by decide⟩, by decide,
    ⟨by decide, by decide⟩, by decide, by decide⟩

end Sys2Proof.Tests
end

section
/-! Rounded division (R1): on a non-negative dividend the quotient is the one integer that brackets it to half a divisor, the upper
end open, so that a tie goes up; on a negative dividend it is the mirror image. -/
namespace Sys2Proof.Machine

/-- What R1 asks of a quotient r of n by d: it is nearest, and of two nearest integers it is the one away from zero. -/
def NearestAwayFromZero (n d r : Int) : Prop :=
  2 * |n - r * d| ≤ d ∧ (2 * |n - r * d| = d → |n| < |r| * d)

/-- R1 treats both signs alike. -/
theorem NearestAwayFromZero.neg {n d r : Int} (h : NearestAwayFromZero n d r) : NearestAwayFromZero (-n) d (-r) := by
  have mirrored : |-n - -r * d| = |n - r * d| := by rw [← abs_neg]; congr 1; ring
  rwa [NearestAwayFromZero, mirrored, abs_neg, abs_neg]

theorem roundDiv_of_nonneg {n : Int} (hn : 0 ≤ n) (d : Int) : roundDiv n d = (2 * n + d) / (2 * d) := if_pos hn

theorem roundDiv_of_neg {n : Int} (hn : n < 0) (d : Int) : roundDiv n d = -roundDiv (-n) d := by
  rw [roundDiv_of_nonneg (neg_nonneg.mpr hn.le)]
  exact if_neg hn.not_ge

@[simp] theorem roundDiv_zero {d : Int} (hd : 0 < d) : roundDiv 0 d = 0 := by
  rw [roundDiv_of_nonneg le_rfl]
  exact Int.ediv_eq_zero_of_lt (by omega) (by omega)

theorem roundDiv_neg (n : Int) {d : Int} (hd : 0 < d) : roundDiv (-n) d = -roundDiv n d := by
  obtain hn | rfl | hn := lt_trichotomy n 0
  · rw [roundDiv_of_neg hn, neg_neg]
  · simp [hd]
  · rw [roundDiv_of_neg (neg_lt_zero.mpr hn), neg_neg]

theorem roundDiv_nonneg {n d : Int} (hn : 0 ≤ n) (hd : 0 < d) : 0 ≤ roundDiv n d := by
  rw [roundDiv_of_nonneg hn]
  exact Int.ediv_nonneg (by omega) (by omega)

/-- The error on a non-negative dividend lies in [-d/2, d/2): the open upper end is what sends a tie up. -/
theorem roundDiv_bracket {n d : Int} (hn : 0 ≤ n) (hd : 0 < d) :
    -d ≤ 2 * (n - roundDiv n d * d) ∧ 2 * (n - roundDiv n d * d) < d := by
  have split := Int.mul_ediv_add_emod (2 * n + d) (2 * d)
  have rest_nonneg := Int.emod_nonneg (2 * n + d) (b := 2 * d) (by omega)
  have rest_lt := Int.emod_lt_of_pos (2 * n + d) (b := 2 * d) (by omega)
  rw [← roundDiv_of_nonneg hn] at split
  constructor <;> linarith

theorem roundDiv_nearest_of_nonneg {n d : Int} (hn : 0 ≤ n) (hd : 0 < d) : NearestAwayFromZero n d (roundDiv n d) := by
  obtain ⟨low, high⟩ := roundDiv_bracket hn hd
  rw [NearestAwayFromZero, abs_of_nonneg hn, abs_of_nonneg (roundDiv_nonneg hn hd)]
  constructor
  · have half := abs_le.mpr ⟨low, high.le⟩
    rwa [abs_mul, abs_two] at half
  · intro tie
    obtain above | below := abs_choice (n - roundDiv n d * d)
    · rw [above] at tie
      exact absurd tie high.ne
    · rw [below] at tie
      omega

theorem roundDiv_nearest (n : Int) {d : Int} (hd : 0 < d) : NearestAwayFromZero n d (roundDiv n d) := by
  obtain hn | hn := le_or_gt 0 n
  · exact roundDiv_nearest_of_nonneg hn hd
  · have mirrored := (roundDiv_nearest_of_nonneg (neg_nonneg.mpr hn.le) hd).neg
    rwa [neg_neg, ← roundDiv_of_neg hn] at mirrored

/-- Settles O3: the bracket of the quotient on non-negative dividends, carried to the negative ones by the mirror image. -/
theorem roundingIsNearest : Obligations.RoundingIsNearest := by
  intro n d hd
  obtain ⟨nearest, tie_away⟩ := roundDiv_nearest n hd
  exact ⟨nearest, tie_away, roundDiv_neg n hd⟩

end Sys2Proof.Machine
end

section
/-! The bounded memories and the lines of a run (O6). Four invariants are carried through the operations together, as one relation
between the state before and the state after: it is reflexive and transitive, so that each operation is treated once and a command is
the chain of its operations. -/
namespace Sys2Proof.Machine

/-! ### What the four invariants look at -/

/-- The part of the state that the bounds and the lines speak of. -/
structure Watched where
  queues    : Port → List Notice
  buffer    : List LineChar
  ring      : List MinuteMean
  results   : List RunResult
  verticals : List Vertical
  phase     : Option RunPhase
  retrieve  : Bool
  exposing  : Bool

def State.watched (s : State) : Watched where
  queues p := (s.port p).queue
  buffer := s.sensing.receiver.buffer
  ring := s.log.ring
  results := s.run.results
  verticals := s.run.verticals
  phase := s.run.ctx.map RunContext.phase
  retrieve := s.outputs.retrieve
  exposing := s.cableway.exposure.isSome

/-- The points of a list of verticals and of the vertical under work are within their bounds (R140, R145). -/
def PointsFit (vs : List Vertical) (phase : Option RunPhase) : Prop :=
  (∀ v ∈ vs, v.points.length ≤ 4) ∧
    ∀ ph, phase = some ph → (∀ v, ph.work = some v → v.points.length ≤ 4) ∧ ∀ v f, ph = .exposing v f → v.points.length ≤ 3

/-- The run state of the phase of an open run, IDLE where no run is open (R133, R134). -/
def phaseState (phase : Option RunPhase) : RunState := (phase.map RunPhase.state).getD .idle

/-- The RETRIEVE line and the exposure follow the run state (R106, R123, R133). -/
def LinesFit (phase : Option RunPhase) (retrieve exposing : Bool) : Prop :=
  (retrieve = true ↔ phaseState phase = .retrieving) ∧ (exposing = true ↔ phaseState phase = .exposing)

theorem State.runState_eq_phaseState (s : State) : s.runState = phaseState s.watched.phase := by
  unfold State.runState State.watched phaseState
  cases s.run.ctx <;> rfl

theorem queuesBounded_iff (s : State) : QueuesBounded s ↔ ∀ p, (s.watched.queues p).length ≤ 16 := Iff.rfl

theorem ringsBounded_iff (s : State) :
    RingsBounded s ↔ s.watched.buffer.length ≤ 16 ∧ s.watched.ring.length ≤ 61 ∧ s.watched.results.length ≤ 8 := Iff.rfl

theorem pointsBounded_iff (s : State) : PointsBounded s ↔ PointsFit s.watched.verticals s.watched.phase := by
  refine and_congr_right fun _ => ?_
  unfold State.watched
  cases s.run.ctx <;> simp

theorem linesFollowRun_iff (s : State) :
    LinesFollowRun s ↔ LinesFit s.watched.phase s.watched.retrieve s.watched.exposing := by
  unfold LinesFollowRun LinesFit
  rw [s.runState_eq_phaseState]
  rfl

/-! ### The relation -/

/-- The state `t` meets each of the four invariants that `s` meets. -/
structure Keeps (s t : State) : Prop where
  queues : QueuesBounded s → QueuesBounded t
  rings  : RingsBounded s → RingsBounded t
  points : PointsBounded s → PointsBounded t
  lines  : LinesFollowRun s → LinesFollowRun t

@[refl] theorem Keeps.refl (s : State) : Keeps s s := ⟨id, id, id, id⟩

@[trans] theorem Keeps.trans {s t u : State} (h : Keeps s t) (k : Keeps t u) : Keeps s u :=
  ⟨k.queues ∘ h.queues, k.rings ∘ h.rings, k.points ∘ h.points, k.lines ∘ h.lines⟩

/-- Each invariant asks for what it watches alone. -/
theorem Keeps.of_watched {s t : State} (h : t.watched = s.watched) : Keeps s t := by
  constructor
  · rw [queuesBounded_iff, queuesBounded_iff, h]; exact id
  · rw [ringsBounded_iff, ringsBounded_iff, h]; exact id
  · rw [pointsBounded_iff, pointsBounded_iff, h]; exact id
  · rw [linesFollowRun_iff, linesFollowRun_iff, h]; exact id

/-- Queues that stay within their bound, where nothing else watched changes. -/
theorem Keeps.of_queues {s t : State} {q : Port → List Notice} (h : t.watched = { s.watched with queues := q })
    (bound : ∀ p, (s.watched.queues p).length ≤ 16 → (q p).length ≤ 16) : Keeps s t := by
  constructor
  · rw [queuesBounded_iff, queuesBounded_iff, h]; exact fun k p => bound p (k p)
  · rw [ringsBounded_iff, ringsBounded_iff, h]; exact id
  · rw [pointsBounded_iff, pointsBounded_iff, h]; exact id
  · rw [linesFollowRun_iff, linesFollowRun_iff, h]; exact id

/-- Rings that stay within their bounds, where nothing else watched changes. -/
theorem Keeps.of_rings {s t : State} {buffer : List LineChar} {ring : List MinuteMean} {results : List RunResult}
    (h : t.watched = { s.watched with buffer := buffer, ring := ring, results := results })
    (b : s.watched.buffer.length ≤ 16 → buffer.length ≤ 16) (r : s.watched.ring.length ≤ 61 → ring.length ≤ 61)
    (e : s.watched.results.length ≤ 8 → results.length ≤ 8) : Keeps s t := by
  constructor
  · rw [queuesBounded_iff, queuesBounded_iff, h]; exact id
  · rw [ringsBounded_iff, ringsBounded_iff, h]; exact fun ⟨hb, hr, he⟩ => ⟨b hb, r hr, e he⟩
  · rw [pointsBounded_iff, pointsBounded_iff, h]; exact id
  · rw [linesFollowRun_iff, linesFollowRun_iff, h]; exact id

/-- A run that moves on: its points stay within their bounds and its lines follow it. -/
theorem Keeps.of_run {s t : State} {vs : List Vertical} {phase : Option RunPhase} {retrieve exposing : Bool}
    (h : t.watched = { s.watched with verticals := vs, phase := phase, retrieve := retrieve, exposing := exposing })
    (points : PointsFit s.watched.verticals s.watched.phase → PointsFit vs phase)
    (lines : LinesFit s.watched.phase s.watched.retrieve s.watched.exposing → LinesFit phase retrieve exposing) : Keeps s t := by
  constructor
  · rw [queuesBounded_iff, queuesBounded_iff, h]; exact id
  · rw [ringsBounded_iff, ringsBounded_iff, h]; exact id
  · rw [pointsBounded_iff, pointsBounded_iff, h]; exact points
  · rw [linesFollowRun_iff, linesFollowRun_iff, h]; exact lines

/-! ### Notices and ports -/

theorem Keeps.setPort {s : State} {p : Port} {x : PortState} (h : (s.port p).queue.length ≤ 16 → x.queue.length ≤ 16) :
    Keeps s (s.setPort p x) := by
  refine .of_queues (q := fun q => if q = p then x.queue else (s.port q).queue) ?_ fun q bound => ?_
  · simp only [State.watched, State.port_setPort, apply_ite PortState.queue]; rfl
  · by_cases hq : q = p
    · subst hq; simpa using h bound
    · simp only [if_neg hq]; exact bound

theorem Keeps.postTo (s : State) (p : Port) (n : Notice) : Keeps s (s.postTo p n) := by
  unfold State.postTo
  split
  · exact .setPort (enqueue_length_le n)
  · rfl

theorem Keeps.postAll (s : State) (n : Notice) : Keeps s (s.postAll n) :=
  ((Keeps.postTo ..).trans (.postTo ..)).trans (.postTo ..)

theorem Keeps.postEach (s : State) (ns : List Notice) : Keeps s (s.postEach ns) := by
  induction ns generalizing s with
  | nil => rfl
  | cons n ns ih => exact (Keeps.postAll s n).trans (ih _)

theorem Keeps.stamp (s : State) (p : Port) : Keeps s (s.stamp p) := .setPort id

theorem Keeps.place (s : State) (p : Port) (r : Response) : Keeps s (s.place p r) := .setPort id

theorem Keeps.release (s : State) (p : Port) (out : Frame) (moved : Nat) :
    Keeps s (s.setPort p ((s.port p).release out moved)) := by
  refine .setPort fun h => ?_
  unfold PortState.release
  split
  · split <;> exact h
  · exact h

/-! ### The log -/

theorem Keeps.skipEntries (s : State) (p : Port) (skipped cursor : Nat) : Keeps s (s.skipEntries p skipped cursor) :=
  .trans (t := { s with log := s.log.setCursor p ⟨cursor, raiseTo 65535 (s.log.cursors.get p).gap skipped⟩ })
    (.of_watched rfl) (.postTo ..)

theorem Keeps.wrapCursor (s : State) (p : Port) : Keeps s (s.wrapCursor p) := by
  unfold State.wrapCursor
  split
  · exact .skipEntries ..
  · exact .of_watched rfl

theorem Keeps.wrapLog (s : State) : Keeps s s.wrapLog := by
  unfold State.wrapLog
  split
  · have cursors := ((Keeps.wrapCursor s .a).trans (.wrapCursor _ .b)).trans (.wrapCursor _ .c)
    generalize ((s.wrapCursor .a).wrapCursor .b).wrapCursor .c = t at cursors
    exact cursors.trans (.of_watched rfl)
  · rfl

theorem Keeps.pushCursor (s : State) (removed : Nat) (p : Port) : Keeps s (s.pushCursor removed p) := by
  unfold State.pushCursor
  split
  · exact .skipEntries ..
  · rfl

theorem Keeps.dropOldest (s : State) : Keeps s s.dropOldest := by
  unfold State.dropOldest
  split
  · split
    · refine .trans ?_ (((Keeps.pushCursor ..).trans (.pushCursor ..)).trans (.pushCursor ..))
      exact .of_watched rfl
    · rfl
  · rfl

theorem Keeps.writeEntry (s : State) (level : Level) : Keeps s (s.writeEntry level) :=
  ((Keeps.wrapLog s).trans (.dropOldest _)).trans (.of_watched rfl)

theorem Keeps.closeEntry (s : State) (level : Level) : Keeps s (s.closeEntry level) := by
  unfold State.closeEntry
  split
  · exact (Keeps.writeEntry s level).trans (.of_watched rfl)
  · exact .of_watched rfl

theorem Keeps.changeInterval (s : State) (i : Interval) (level : Level) : Keeps s (s.changeInterval i level) := by
  unfold State.changeInterval
  split
  · rfl
  · exact (Keeps.closeEntry s level).trans (.of_watched rfl)

theorem Keeps.boundaryEntry (s : State) (closeTime : Nat) : Keeps s (s.boundaryEntry closeTime) := by
  unfold State.boundaryEntry
  split
  · exact .closeEntry ..
  · rfl

theorem joinRing_length_le {ring : List MinuteMean} (m : MinuteMean) (h : ring.length ≤ 61) : (joinRing ring m).length ≤ 61 := by
  unfold joinRing Config.ringSize
  split
  · exact h
  · split <;> simp <;> omega

theorem joinResults_length_le {ring : List RunResult} (r : RunResult) (h : ring.length ≤ 8) : (joinResults ring r).length ≤ 8 := by
  unfold joinResults Config.resultsSize
  split <;> simp <;> omega

theorem Keeps.resetClock (s : State) (t : Nat) : Keeps s (s.resetClock t) := by
  unfold State.resetClock
  refine .trans ?_ (.postAll ..)
  refine .trans (t := if 0 < s.log.entry.span then s.writeEntry s.warning.level else s) ?_ ?_
  · split
    · exact .writeEntry ..
    · rfl
  · exact .of_rings rfl id (fun _ => Nat.zero_le 61) id

/-! ### The outputs -/

theorem Keeps.hand (s : State) (out : Output) (n : Fin 8) : Keeps s (s.hand out n) := .of_watched (by cases out <;> rfl)

theorem Keeps.handField (s : State) (out : Output) (field : Option (Fin 8)) : Keeps s (s.handField out field) := by
  cases field with
  | none => rfl
  | some n => exact .hand ..

theorem Keeps.phaseExpiry (s : State) (out : Output) (ms : Nat) : Keeps s (s.phaseExpiry out ms) :=
  .of_watched (by cases out <;> rfl)

/-! ### The phases of a run -/

/-- A phase in which the RETRIEVE line is released and no exposure is RUNNING. -/
def RunPhase.Calm (ph : RunPhase) : Prop := ph.state ≠ .retrieving ∧ ph.state ≠ .exposing

theorem RunPhase.calm_opened : RunPhase.opened.Calm := ⟨nofun, nofun⟩

theorem RunPhase.calm_finished : RunPhase.finished.Calm := ⟨nofun, nofun⟩

theorem RunPhase.calm_rest (r : Rest) : (RunPhase.rest r).Calm := by cases r <;> exact ⟨nofun, nofun⟩

/-- While the run is calm or not open, the lines follow it exactly where both are at rest. -/
theorem linesFit_of_calm {ph : RunPhase} (h : ph.Calm) (retrieve exposing : Bool) :
    LinesFit (some ph) retrieve exposing ↔ retrieve = false ∧ exposing = false := by
  obtain ⟨hr, he⟩ := h
  simp [LinesFit, phaseState, hr, he]

theorem linesFit_none (retrieve exposing : Bool) : LinesFit none retrieve exposing ↔ retrieve = false ∧ exposing = false := by
  simp [LinesFit, phaseState]

theorem linesFit_exposing (v : Vertical) (f : Fraction) (retrieve exposing : Bool) :
    LinesFit (some (.exposing v f)) retrieve exposing ↔ retrieve = false ∧ exposing = true := by
  simp [LinesFit, phaseState, RunPhase.state]

theorem linesFit_retrieving (r : Rest) (retrieve exposing : Bool) :
    LinesFit (some (.retrieving r)) retrieve exposing ↔ retrieve = true ∧ exposing = false := by
  simp [LinesFit, phaseState, RunPhase.state]

theorem pointsFit_none (vs : List Vertical) : PointsFit vs none ↔ ∀ v ∈ vs, v.points.length ≤ 4 := by simp [PointsFit]

theorem pointsFit_exposing (vs : List Vertical) (v : Vertical) (f : Fraction) :
    PointsFit vs (some (.exposing v f)) ↔ (∀ w ∈ vs, w.points.length ≤ 4) ∧ v.points.length ≤ 3 := by
  refine and_congr_right fun _ => ⟨fun h => (h _ rfl).2 v f rfl, fun h ph e => ?_⟩
  cases e
  exact ⟨fun w hw => by cases hw; exact h.trans (by decide), fun w g e => by cases e; exact h⟩

theorem pointsFit_of_not_exposing {ph : RunPhase} (h : ph.state ≠ .exposing) (vs : List Vertical) :
    PointsFit vs (some ph) ↔ (∀ v ∈ vs, v.points.length ≤ 4) ∧ ∀ v, ph.work = some v → v.points.length ≤ 4 := by
  refine and_congr_right fun _ => ⟨fun h => (h _ rfl).1, fun hw x e => ?_⟩
  cases e
  exact ⟨hw, fun v f e => absurd (congrArg RunPhase.state e) h⟩

theorem State.watched_phase {s : State} {c : RunContext} (hc : s.run.ctx = some c) : s.watched.phase = some c.phase := by
  simp [State.watched, hc]

/-- A run that goes from one calm phase to another, its list changed with it. -/
theorem Keeps.of_calm {s t : State} {c : RunContext} {ph : RunPhase} {vs : List Vertical} (hc : s.run.ctx = some c)
    (before : c.phase.Calm) (after : ph.Calm) (h : t.watched = { s.watched with verticals := vs, phase := some ph })
    (list : (∀ v ∈ s.run.verticals, v.points.length ≤ 4) → (∀ v, c.phase.work = some v → v.points.length ≤ 4) →
      ∀ v ∈ vs, v.points.length ≤ 4)
    (work : (∀ v, c.phase.work = some v → v.points.length ≤ 4) → ∀ v, ph.work = some v → v.points.length ≤ 4) : Keeps s t := by
  refine .of_run h (fun k => ?_) (fun k => ?_)
  · rw [State.watched_phase hc, pointsFit_of_not_exposing before.2] at k
    exact (pointsFit_of_not_exposing after.2 _).2 ⟨list k.1 k.2, work k.2⟩
  · rw [State.watched_phase hc, linesFit_of_calm before] at k
    exact (linesFit_of_calm after ..).2 k

/-- A run that goes from one resting state to another with its list as it is. -/
theorem Keeps.setRest {s : State} {c : RunContext} {r : Rest} (hc : s.run.ctx = some c) (hp : c.phase = .rest r) (r' : Rest)
    (work : (∀ v, r.work = some v → v.points.length ≤ 4) → ∀ v, r'.work = some v → v.points.length ≤ 4) :
    Keeps s (s.setPhase c (.rest r')) :=
  .of_calm (ph := .rest r') hc (hp ▸ RunPhase.calm_rest r) (RunPhase.calm_rest r') rfl (fun h _ => h) (by rw [hp]; exact work)

/-- The context replaced by one of the same phase. -/
theorem Keeps.setCtx {s : State} {c d : RunContext} (hc : s.run.ctx = some c) (h : d.phase = c.phase) : Keeps s (s.setCtx d) :=
  .of_watched (congrArg (fun ph => { s.watched with phase := ph }) (a₁ := some d.phase) (by simp [hc, h]))

theorem Keeps.unhold (s : State) (p : Port) : Keeps s (s.unhold p) := by
  unfold State.unhold
  split
  · rename_i c hc
    split
    · exact .setCtx hc rfl
    · rfl
  · rfl

/-! ### Exposures -/

/-- The cableway unit replaced by one whose exposure is RUNNING where it was. -/
theorem Keeps.setCableway {s : State} {x : Cableway} (h : x.exposure.isSome = s.cableway.exposure.isSome) :
    Keeps s { s with cableway := x } :=
  .of_watched (congrArg (fun b => { s.watched with exposing := b }) h)

theorem Keeps.passMs (s : State) (ms : Nat) : Keeps s (s.passMs ms) := .setCableway (by simp [Cableway.pass])

/-- An exposure that ends brings its point, the fourth at most, to the vertical under work. -/
theorem Keeps.endExposure {s : State} {c : RunContext} {v : Vertical} {f : Fraction} (hc : s.run.ctx = some c)
    (hp : c.phase = .exposing v f) (r : PointResult) (q : Point) :
    Keeps s ((s.endExposure r).setPhase c (.rest (.points (v.addPoint q)))) := by
  have calm := RunPhase.calm_rest (.points (v.addPoint q))
  refine .of_run (vs := s.run.verticals) (phase := some (.rest (.points (v.addPoint q)))) (retrieve := s.outputs.retrieve)
    (exposing := false) rfl (fun k => ?_) (fun k => ?_)
  · rw [State.watched_phase hc, hp, pointsFit_exposing] at k
    refine (pointsFit_of_not_exposing calm.2 _).2 ⟨k.1, fun w hw => ?_⟩
    cases hw
    simpa [Vertical.addPoint, Nat.lt_succ_iff] using k.2
  · rw [State.watched_phase hc, hp, linesFit_exposing] at k
    exact (linesFit_of_calm calm ..).2 ⟨k.1, rfl⟩

/-- An exposure ends without a run EXPOSING in no state whose lines follow its run. -/
theorem Keeps.endExposure_idle {s : State} {x : Exposure} (hx : s.cableway.exposure = some x)
    (h : s.runState ≠ .exposing) (r : PointResult) : Keeps s (s.endExposure r) := by
  refine .of_run (vs := s.run.verticals) (phase := s.watched.phase) (retrieve := s.outputs.retrieve) (exposing := false) rfl id
    fun k => ?_
  rw [s.runState_eq_phaseState] at h
  exact absurd (k.2.1 (by simp [State.watched, hx])) h

theorem RunPhase.state_ne_exposing {ph : RunPhase} (h : ∀ v f, ph ≠ .exposing v f) : ph.state ≠ .exposing := by
  cases ph with
  | exposing v f => exact absurd rfl (h v f)
  | rest r => exact (RunPhase.calm_rest r).2
  | opened => exact RunPhase.calm_opened.2
  | finished => exact RunPhase.calm_finished.2
  | retrieving r => simp [RunPhase.state]

theorem Keeps.expireExposure (s : State) : Keeps s s.expireExposure := by
  unfold State.expireExposure
  split
  · rfl
  · rename_i x hx
    split
    · rename_i hc
      exact .endExposure_idle hx (by simp [State.runState, hc]) _
    · rename_i c hc
      split
      · exact .endExposure hc ‹_› ..
      · rename_i other
        exact .endExposure_idle hx (by simpa [State.runState, hc] using RunPhase.state_ne_exposing other) _

theorem Keeps.exposureExpiry (s : State) (ms : Nat) (waits : Bool) : Keeps s (exposureExpiry ms waits s) := by
  unfold Machine.exposureExpiry
  split
  · exact (Keeps.passMs s ms).trans (.expireExposure _)
  · exact .passMs ..

theorem Cableway.closure_exposing (c : Cableway) (deadMs : Nat) : (c.closure deadMs).exposure.isSome = c.exposure.isSome := by
  unfold Cableway.closure
  split <;> simp

theorem Keeps.meterClosure (s : State) (ms : Nat) : Keeps s (meterClosure ms s) :=
  (Keeps.exposureExpiry s ms true).trans (.setCableway (Cableway.closure_exposing ..))

/-! ### The retrieve request and the end of a run -/

theorem Keeps.postRetrieve (s : State) (c : RunContext) (time : Nat) (entered : Option RunState) :
    Keeps s (s.postRetrieve c time entered) := by
  unfold State.postRetrieve
  cases c.holder with
  | some p => exact .postTo ..
  | none => exact .postAll ..

/-- A run at rest enters RETRIEVING. -/
theorem Keeps.enterRetrieving {s : State} {c d : RunContext} {r : Rest} (hc : s.run.ctx = some d) (hp : d.phase = .rest r) :
    Keeps s (s.enterRetrieving c r) := by
  refine .of_run (vs := s.run.verticals) (phase := some (.retrieving r)) (retrieve := true)
    (exposing := s.cableway.exposure.isSome) rfl (fun k => ?_) (fun k => ?_)
  · rw [State.watched_phase hc, hp, pointsFit_of_not_exposing (RunPhase.calm_rest r).2] at k
    exact (pointsFit_of_not_exposing (by simp [RunPhase.state]) _).2 k
  · rw [State.watched_phase hc, hp, linesFit_of_calm (RunPhase.calm_rest r)] at k
    exact (linesFit_retrieving ..).2 ⟨rfl, k.2⟩

/-- A run EXPOSING without an exposure is no run whose lines follow it. -/
theorem Keeps.enterRetrieving_unexposed {s : State} {c : RunContext} {v : Vertical} {f : Fraction} (hc : s.run.ctx = some c)
    (hp : c.phase = .exposing v f) (hx : s.cableway.exposure = none) : Keeps s (s.enterRetrieving c (.points v)) := by
  refine .of_run (vs := s.run.verticals) (phase := some (.retrieving (.points v))) (retrieve := true)
    (exposing := s.cableway.exposure.isSome) rfl (fun k => ?_) (fun k => ?_)
  · rw [State.watched_phase hc, hp, pointsFit_exposing] at k
    refine (pointsFit_of_not_exposing (by simp [RunPhase.state]) _).2 ⟨k.1, fun w hw => ?_⟩
    cases hw
    exact k.2.trans (by decide)
  · rw [State.watched_phase hc, hp, linesFit_exposing] at k
    exact absurd k.2 (by simp [State.watched, hx])

theorem Keeps.retrieve (s : State) (time : Nat) : Keeps s (s.retrieve time) := by
  unfold State.retrieve
  cases hc : s.run.ctx with
  | none => rfl
  | some c =>
    simp only
    cases hp : c.phase with
    | opened => exact .postRetrieve ..
    | finished => exact .postRetrieve ..
    | retrieving _ => exact .postRetrieve ..
    | rest r => exact (Keeps.enterRetrieving hc hp).trans (.postRetrieve ..)
    | exposing v f =>
      cases hx : s.cableway.exposure with
      | none => exact (Keeps.enterRetrieving_unexposed hc hp hx).trans (.postRetrieve ..)
      | some x =>
        refine .trans ?_ (.postRetrieve ..)
        exact (Keeps.endExposure hc hp _ _).trans (.enterRetrieving (d := { c with phase := .rest _ }) rfl rfl)

/-- A run that ends leaves both lines at rest, where the work it leaves is handed back first (R153, R154). -/
theorem Keeps.endRun {s u : State} {retrieve exposing : Bool}
    (hu : u.watched = { s.watched with retrieve := retrieve, exposing := exposing })
    (atRest : LinesFit s.watched.phase s.watched.retrieve s.watched.exposing → retrieve = false ∧ exposing = false)
    (c : RunContext) (r : RunResult) (way : Param) : Keeps s (u.endRun c r way) := by
  refine .trans ?_ (.postAll ..)
  refine .trans (t := { s with run := { s.run with results := joinResults s.run.results r } })
    (.of_rings rfl id id (joinResults_length_le r)) ?_
  refine .of_run (vs := s.run.verticals) (phase := none) (retrieve := retrieve) (exposing := exposing) ?_
    (fun k => (pointsFit_none _).2 k.1) (fun k => (linesFit_none ..).2 (atRest k))
  simp only [State.watched, Watched.mk.injEq] at hu ⊢
  obtain ⟨hq, hb, hr, he, hv, -, hl, hx⟩ := hu
  exact ⟨hq, hb, hr, by rw [he], hv, rfl, hl, hx⟩

/-! ### The minute close -/

theorem Keeps.setWarning (s : State) (w : WarningUnit) : Keeps s (s.setWarning w) := .of_watched rfl

theorem Keeps.changeLevel (s : State) (l : Level) (time : Nat) (way : LevelWay) : Keeps s (s.changeLevel l time way) :=
  .of_watched rfl

theorem Keeps.entryLevel (s : State) (next : Option Level) (time : Nat) : Keeps s (s.entryLevel next time) := by
  unfold State.entryLevel
  split
  · rfl
  · split
    · rfl
    · exact .changeLevel ..

theorem Keeps.entryInterval (s : State) (i : Option Interval) : Keeps s (s.entryInterval i) := by
  unfold State.entryInterval
  split
  · rfl
  · exact .changeInterval ..

theorem Keeps.entryNotice (s : State) (post : Bool) (cls : TriggerClass) (before : Level) (time : Nat) :
    Keeps s (s.entryNotice post cls before time) := by
  unfold State.entryNotice
  split
  · exact .postAll ..
  · rfl

theorem Keeps.withdrawAck (s : State) (time : Nat) : Keeps s (s.withdrawAck time) := by
  unfold State.withdrawAck
  split
  · rfl
  · exact (Keeps.setWarning ..).trans (.postAll ..)

theorem Keeps.entryAck (s : State) (required changed : Bool) (time : Nat) : Keeps s (s.entryAck required changed time) := by
  unfold State.entryAck
  split
  · exact (Keeps.setWarning ..).trans (.postAll ..)
  · split
    · exact .withdrawAck ..
    · rfl

theorem Keeps.entryRetrieve (s : State) (retrieve : Bool) (time : Nat) : Keeps s (s.entryRetrieve retrieve time) := by
  unfold State.entryRetrieve
  split
  · exact .retrieve ..
  · rfl

theorem Keeps.takeEntry (s : State) (cls : TriggerClass) (time : Nat) : Keeps s (s.takeEntry cls time) :=
  (Keeps.entryLevel ..).trans <| (Keeps.handField ..).trans <| (Keeps.handField ..).trans <| (Keeps.entryInterval ..).trans <|
    (Keeps.entryNotice ..).trans <| (Keeps.entryAck ..).trans (.entryRetrieve ..)

/-- A step of the evaluation either replaces the warning unit or raises a class after that. -/
theorem Keeps.raise (x : Progress) (w : WarningUnit) (cls : TriggerClass) (time : Nat) :
    Keeps x.state ((x.setWarning w).raise cls time).state :=
  (Keeps.setWarning ..).trans (.takeEntry ..)

theorem Keeps.raiseIf (x : Progress) (cond : Prop) [Decidable cond] (w v : WarningUnit) (cls : TriggerClass) (time : Nat) :
    Keeps x.state (if cond then (x.setWarning w).raise cls time else x.setWarning v).state := by
  split
  · exact .raise ..
  · exact .setWarning ..

theorem Keeps.stepSensor (c : Close) (x : Progress) : Keeps x.state (stepSensor c x).state := by
  unfold Machine.stepSensor
  dsimp only
  split
  · split
    · rfl
    · exact .raise ..
  · split
    · exact .raise ..
    · rfl

theorem Keeps.stepUp (c : Close) (mean : Int) (x : Progress) : Keeps x.state (stepUp c mean x).state := by
  unfold Machine.stepUp
  dsimp only
  cases x.state.warning.level.stepUp with
  | none => rfl
  | some k => exact .raiseIf ..

theorem Keeps.stepDown (c : Close) (mean : Int) (x : Progress) : Keeps x.state (stepDown c mean x).state := by
  unfold Machine.stepDown
  dsimp only
  cases x.state.warning.level.stepDown with
  | none => rfl
  | some k => exact .raiseIf ..

theorem Keeps.stepRate (c : Close) (x : Progress) : Keeps x.state (stepRate c x).state := by
  unfold Machine.stepRate
  dsimp only
  split
  · rfl
  · exact .raiseIf ..
  · exact .raiseIf ..

theorem Keeps.stepFlow (c : Close) (x : Progress) : Keeps x.state (stepFlow c x).state := by
  unfold Machine.stepFlow
  dsimp only
  split
  · rfl
  · exact .raiseIf ..
  · exact .raiseIf ..

theorem Keeps.countedSteps (c : Close) (x : Progress) : Keeps x.state (countedSteps c x).state := by
  unfold Machine.countedSteps
  split
  · split
    · exact (((Keeps.stepUp ..).trans (.stepDown ..)).trans (.stepRate ..)).trans (.stepFlow ..)
    · rfl
  · rfl

theorem Keeps.evaluate (s : State) (m : MinuteMean) (rate : Option Int) (sensor : SensorState) :
    Keeps s (s.evaluate m rate sensor) :=
  (Keeps.stepSensor (s.closeOf m rate sensor) ⟨s, []⟩).trans ((Keeps.countedSteps ..).trans (.setWarning ..))

theorem Keeps.closeMinute (s : State) : Keeps s s.closeMinute := by
  unfold State.closeMinute
  refine .trans ?_ (.evaluate ..)
  refine .trans ?_ (.boundaryEntry ..)
  exact .of_rings (s := s) rfl id (joinRing_length_le _) id

theorem Keeps.minuteClose (s : State) : Keeps s (minuteClose s) := by
  unfold Machine.minuteClose
  split
  · exact .closeMinute ..
  · rfl

theorem Keeps.idleExpiry (s : State) : Keeps s s.idleExpiry := by
  unfold State.idleExpiry
  split
  · exact .of_watched rfl
  · rfl

theorem Keeps.deadlineExpiry (s : State) : Keeps s s.deadlineExpiry := by
  unfold State.deadlineExpiry
  split
  · rfl
  · split
    · exact ((Keeps.setWarning ..).trans (.hand ..)).trans (.postAll ..)
    · rfl

/-! ### The clock count -/

@[simp] theorem ageReading_receiver (x : Sensing) : (ageReading x).receiver = x.receiver := by
  unfold ageReading
  split <;> rfl

@[simp] theorem checkDisagree_receiver (agreeMm : Int) (f p : Option Marked) (x : Sensing) :
    (checkDisagree agreeMm f p x).receiver = x.receiver := by
  unfold checkDisagree
  split
  · dsimp only
    split <;> split <;> rfl
  · rfl

@[simp] theorem updateSensor_receiver (holdLimitS : Int) (held : Bool) (x : Sensing) :
    (updateSensor holdLimitS held x).receiver = x.receiver := by
  unfold updateSensor
  split <;> rfl

/-- The receiver of the pressure line stands at a sample expiry (R11). -/
theorem sampleExpiry_receiver (c : SensingSettings) (time : Nat) (x : Sensing) :
    (sampleExpiry c time x).receiver = x.receiver := by
  unfold sampleExpiry
  cases c.primary <;> simp

theorem Keeps.countAll (s : State) : Keeps s s.countAll := by
  refine .of_watched (congrArg (fun ph => { s.watched with phase := ph }) ?_)
  unfold State.countAll RunContext.count
  cases s.run.ctx with
  | none => rfl
  | some c => simp only [Option.map_some]; split <;> rfl

theorem Keeps.senseSecond (s : State) : Keeps s s.senseSecond := by
  refine .trans (t := { s with sensing := sampleExpiry s.cfg.sensing s.clock.time s.sensing }) ?_ (.postEach ..)
  exact .of_watched (congrArg (fun r => { s.watched with buffer := r.buffer }) (sampleExpiry_receiver ..))

theorem Keeps.settle (s : State) : Keeps s s.settle :=
  ((Keeps.idleExpiry s).trans (.deadlineExpiry _)).trans (.minuteClose _)

theorem Keeps.stationClockCount (s : State) : Keeps s (stationClockCount s) := by
  unfold Machine.stationClockCount
  split
  · exact (((Keeps.settle s).trans (.countAll _)).trans (.senseSecond _)).trans (.of_watched rfl)
  · exact .of_watched rfl

/-! ### Store, power and restart -/

theorem Keeps.saveCompletion (s : State) : Keeps s (saveCompletion s) := by
  unfold Machine.saveCompletion
  split
  · rfl
  · rename_i x _
    refine .trans ?_ (.postAll ..)
    refine .trans ?_ (.place ..)
    exact .trans (t := { s with save := none, store := { s.store with valid := true } }) (.of_watched rfl) (.setPort id)

theorem Keeps.mainPowerLoss (s : State) : Keeps s (mainPowerLoss s) :=
  .of_watched (congrArg (fun q => { s.watched with queues := q }) (funext fun p => by cases p <;> rfl))

/-- Every block started, with the results of the runs so far or none (R197, R198). -/
theorem Keeps.of_started {s t : State} {results : List RunResult} (h : t.watched = ⟨fun _ => [], [], [], results, [], none, false, false⟩)
    (hr : results = s.run.results ∨ results = []) : Keeps s t := by
  constructor
  · rw [queuesBounded_iff t, h]; simp
  · rw [ringsBounded_iff, ringsBounded_iff, h]
    rintro ⟨-, -, k⟩
    refine ⟨by simp, by simp, ?_⟩
    rcases hr with rfl | rfl
    · exact k
    · simp
  · rw [pointsBounded_iff t, h]; simp [pointsFit_none]
  · rw [linesFollowRun_iff t, h]; simp [linesFit_none]

theorem Keeps.postWhen (s : State) (cond : Bool) (n : Notice) : Keeps s (s.postWhen cond n) := by
  unfold State.postWhen
  split
  · exact .postAll ..
  · rfl

theorem Keeps.powerOn (s : State) (held : Bool) (f t d : LevelPair) : Keeps s (powerOn held f t d s) := by
  unfold Machine.powerOn
  refine .trans ?_ (.postAll ..)
  refine .trans ?_ (.postWhen ..)
  refine .trans ?_ (.postWhen ..)
  generalize hr : (if (held && s.retainedMark) = true then s.retained else clearedRetained) = r
  refine .of_started (results := r.results) ?_ ?_
  · exact congrArg (fun q => (⟨q, [], [], r.results, [], none, false, false⟩ : Watched)) (funext fun p => by cases p <;> rfl)
  · subst hr
    split
    · exact .inl rfl
    · exact .inr rfl

theorem Keeps.restart (s : State) (p : Port) : Keeps s (restart p s).1 := by
  refine .trans ?_ (.postAll s.restartBlocks _)
  refine .of_started (results := s.run.results) ?_ (.inl rfl)
  exact congrArg (fun q => (⟨q, [], [], s.run.results, [], none, false, false⟩ : Watched)) (funext fun p => by cases p <;> rfl)

/-! ### Requests -/

theorem Keeps.unlessSaving {f : State → Answer} (h : ∀ s, Keeps s (f s).1) (s : State) : Keeps s (unlessSaving f s).1 := by
  unfold Machine.unlessSaving
  split
  · rfl
  · exact h s

theorem Keeps.asEditor {f : State → Answer} (h : ∀ s, Keeps s (f s).1) (p : Port) (s : State) : Keeps s (asEditor p f s).1 := by
  unfold Machine.asEditor
  split
  · exact .trans (t := s.reloadIdle) (.of_watched rfl) (h _)
  · rfl

/-- A request of the holder starts from the run as it stands. -/
theorem Keeps.asHolder {f : RunContext → State → Answer} (h : ∀ c s, s.run.ctx = some c → Keeps s (f c s).1) (p : Port)
    (s : State) : Keeps s (asHolder p f s).1 := by
  unfold Machine.asHolder
  split
  · rfl
  · rename_i c hc
    split
    · exact .trans (t := s.setCtx (c.touch s.clock.time)) (.setCtx hc rfl) (h _ _ rfl)
    · rfl

/-! Requests that read, and those of the settings. -/

theorem Keeps.readLog (p : Port) (count : Nat) (s : State) : Keeps s (readLog p count s).1 := by
  unfold Machine.readLog
  split <;> rfl

theorem Keeps.ratingQuery (bank : Code Bank) (h : Int) (s : State) : Keeps s (ratingQuery bank h s).1 := by
  unfold Machine.ratingQuery
  dsimp only
  split
  · rfl
  · rfl
  · split <;> rfl

theorem Keeps.readRating (bank : Code Bank) (first : Nat) (s : State) : Keeps s (readRating bank first s).1 := by
  unfold Machine.readRating
  split
  · rfl
  · split <;> rfl

theorem Keeps.getAction (level : Nat) (cls : Code TriggerClass) (s : State) : Keeps s (getAction level cls s).1 := by
  unfold Machine.getAction
  split <;> rfl

theorem Keeps.getPattern (number : Nat) (s : State) : Keeps s (getPattern number s).1 := by
  unfold Machine.getPattern
  split <;> rfl

theorem Keeps.getMeter (index : Nat) (s : State) : Keeps s (getMeter index s).1 := by
  unfold Machine.getMeter
  split <;> rfl

theorem Keeps.readResult (age : Nat) (s : State) : Keeps s (readResult age s).1 := by
  unfold Machine.readResult
  split
  · split <;> rfl
  · rfl

theorem Keeps.readVertical (index : Nat) (point : Option Nat) (s : State) : Keeps s (readVertical index point s).1 := by
  unfold Machine.readVertical
  split
  · rfl
  · split
    · rfl
    · split
      · rfl
      · split <;> rfl

theorem Keeps.setNoticeMask (p : Port) (mask : Word32) (s : State) : Keeps s (setNoticeMask p mask s).1 := by
  refine .unlessSaving (fun s => ?_) s
  split
  · exact .of_watched rfl
  · rfl

theorem Keeps.setFloatStage (v : Int) (s : State) : Keeps s (setFloatStage v s).1 :=
  .unlessSaving (fun _ => .of_watched rfl) s

theorem Keeps.setPressStage (v : Int) (s : State) : Keeps s (setPressStage v s).1 := by
  refine .unlessSaving (fun s => ?_) s
  split
  · exact .of_watched rfl
  · rfl

theorem Keeps.setSensing (a : SensingArgs) (s : State) : Keeps s (setSensing a s).1 := by
  refine .unlessSaving (fun s => ?_) s
  dsimp only
  split
  · rfl
  · exact .of_watched rfl

theorem Keeps.setLogSettings (w : Option Int) (i : Option Nat) (s : State) : Keeps s (setLogSettings w i s).1 := by
  refine .unlessSaving (fun s => ?_) s
  split
  · rfl
  · exact .of_watched rfl

theorem Keeps.setWarningSettings (a : WarningArgs) (s : State) : Keeps s (setWarningSettings a s).1 := by
  refine .unlessSaving (fun s => ?_) s
  dsimp only
  split
  · exact .of_watched rfl
  · rfl

theorem Keeps.setAction (level : Nat) (cls : Code TriggerClass) (a : ActionArgs) (s : State) :
    Keeps s (setAction level cls a s).1 := by
  refine .unlessSaving (fun s => ?_) s
  split
  · exact .of_watched rfl
  · rfl

theorem Keeps.setAckSettings (a : AckArgs) (s : State) : Keeps s (setAckSettings a s).1 := by
  refine .unlessSaving (fun s => ?_) s
  dsimp only
  split
  · exact .of_watched rfl
  · rfl

theorem Keeps.setPattern (number : Nat) (onMs offMs burst pauseMs : Int) (s : State) :
    Keeps s (setPattern number onMs offMs burst pauseMs s).1 := by
  refine .unlessSaving (fun s => ?_) s
  split
  · rfl
  · exact .of_watched rfl

theorem Keeps.setMeter (index : Nat) (c : Int) (count : Nat) (segs : List SegmentArg) (s : State) :
    Keeps s (setMeter index c count segs s).1 := by
  refine .unlessSaving (fun s => ?_) s
  split
  · rfl
  · dsimp only
    split
    · split
      · exact .of_watched rfl
      · rfl
    · rfl

theorem Keeps.setCounterSettings (x y m : Option Int) (s : State) : Keeps s (setCounterSettings x y m s).1 :=
  .unlessSaving (fun _ => .of_watched rfl) s

theorem Keeps.setRunSettings (k : Nat) (s : State) : Keeps s (setRunSettings k s).1 := by
  refine .unlessSaving (fun s => ?_) s
  split
  · rfl
  · exact .of_watched rfl

/-! Requests of the ports, the log, the rating unit, the warning unit and the outputs. -/

theorem Keeps.readNotice (p : Port) (s : State) : Keeps s (readNotice p s).1 := by
  unfold Machine.readNotice
  split
  · rfl
  · rename_i n rest hq
    exact .setPort (by rw [hq]; exact (Nat.le_succ _).trans)

theorem Keeps.clearPort (p : Port) (s : State) : Keeps s (clearPort p s).1 := by
  have cleared : Keeps s ((s.setPort p { s.port p with slot := none, queue := [] }).unhold p) :=
    .trans (.setPort (x := { s.port p with slot := none, queue := [] }) fun _ => Nat.zero_le 16) (.unhold ..)
  unfold Machine.clearPort
  dsimp only [reply]
  split
  · exact cleared.trans (.of_watched rfl)
  · exact cleared

theorem Keeps.saveSettings (p : Port) (long : Bool) (s : State) : Keeps s (saveSettings p long s).1 := by
  unfold Machine.saveSettings
  split
  · rfl
  · exact .trans (t := s.setPort p { s.port p with inProgress := some saveCode }) (.setPort id) (.of_watched rfl)

theorem Keeps.setClock (t : Nat) (s : State) : Keeps s (setClock t s).1 := by
  unfold Machine.setClock
  split
  · rfl
  · exact ((Keeps.deadlineExpiry s).trans (.minuteClose _)).trans (.resetClock ..)

theorem Keeps.advanceLog (p : Port) (n : Nat) (s : State) : Keeps s (advanceLog p n s).1 := by
  unfold Machine.advanceLog
  split
  · exact .of_watched rfl
  · rfl

theorem Keeps.ratingBegin (p : Port) (s : State) : Keeps s (ratingBegin p s).1 := by
  unfold Machine.ratingBegin
  dsimp only
  split
  · exact .of_watched rfl
  · split
    · exact .of_watched rfl
    · rfl

theorem Keeps.ratingPoint (p : Port) (index : Nat) (h q : Int) (s : State) : Keeps s (ratingPoint p index h q s).1 := by
  refine .asEditor (fun s => ?_) p s
  dsimp only
  split
  · exact .of_watched rfl
  · split
    · exact .of_watched rfl
    · rfl

theorem Keeps.ratingTruncate (p : Port) (count : Nat) (s : State) : Keeps s (ratingTruncate p count s).1 := by
  refine .asEditor (fun s => ?_) p s
  split
  · exact .of_watched rfl
  · rfl

theorem Keeps.ratingCommit (p : Port) (s : State) : Keeps s (ratingCommit p s).1 := by
  refine .asEditor (fun s => ?_) p s
  split
  · rfl
  · split
    · rfl
    · refine .trans ?_ (.postAll ..)
      exact .of_watched rfl

theorem Keeps.ratingCancel (p : Port) (s : State) : Keeps s (ratingCancel p s).1 := by
  unfold Machine.ratingCancel
  split
  · exact .of_watched rfl
  · rfl

theorem Keeps.force (s : State) (p : Port) (l : Level) : Keeps s (s.force p l) :=
  (Keeps.changeLevel ..).trans <| (Keeps.setWarning ..).trans <| (Keeps.hand ..).trans <| (Keeps.hand ..).trans <|
    (Keeps.setWarning ..).trans (.postAll ..)

theorem Keeps.forceLevel (p : Port) (k : Nat) (s : State) : Keeps s (forceLevel p k s).1 := by
  unfold Machine.forceLevel
  split
  · rfl
  · exact .force ..

theorem Keeps.ack (p : Port) (level : Nat) (s : State) : Keeps s (ack p level s).1 := by
  unfold Machine.ack
  split
  · rfl
  · rfl
  · split
    · exact ((Keeps.setWarning ..).trans (.hand ..)).trans (.postAll ..)
    · rfl

theorem Keeps.outputTest (p : Port) (out : Code Output) (pattern : Nat) (bursts : Int) (s : State) :
    Keeps s (outputTest p out pattern bursts s).1 := by
  unfold Machine.outputTest
  split
  · rename_i o n r _ _
    dsimp only
    split
    · exact .of_watched (by cases o <;> rfl)
    · rfl
  · rfl

/-! Requests of the run unit. -/

theorem Keeps.openRun (p : Port) (meter : Nat) (target : Int) (coeff : Option Int) (s : State) :
    Keeps s (openRun p meter target coeff s).1 := by
  unfold Machine.openRun
  split
  · rename_i c hc
    by_cases h : c.holder = some p
    · simp only [if_pos h]
      exact .setCtx hc rfl
    · simp only [if_neg h]
      rfl
  · rename_i hc
    split
    · rfl
    · rfl
    · refine .of_run (vs := []) (phase := some .opened) (retrieve := s.outputs.retrieve)
        (exposing := s.cableway.exposure.isSome) rfl (fun _ => ?_) (fun k => ?_)
      · exact (pointsFit_of_not_exposing RunPhase.calm_opened.2 _).2 ⟨by simp, fun _ e => nomatch e⟩
      · have idle : s.watched.phase = none := by simp [State.watched, hc]
        rw [idle, linesFit_none] at k
        exact (linesFit_of_calm RunPhase.calm_opened ..).2 k

theorem Keeps.takeRun (p : Port) (s : State) : Keeps s (takeRun p s).1 := by
  unfold Machine.takeRun
  split
  · rfl
  · rename_i c hc
    have taken : Keeps s (s.setCtx { c.touch s.clock.time with holder := some p }) := .setCtx hc rfl
    dsimp only
    split
    · exact taken
    · split
      · exact taken
      · split
        · exact taken.trans (.postTo ..)
        · rfl

/-- A vertical joins the list of a run that stays calm. -/
theorem forall_points_append {vs : List Vertical} {w : Vertical} (h : ∀ v ∈ vs, v.points.length ≤ 4) (hw : w.points.length ≤ 4) :
    ∀ v ∈ vs ++ [w], v.points.length ≤ 4 := by
  simpa [or_imp, forall_and] using ⟨h, hw⟩

/-- A finalisation leaves the points of every vertical (R165). -/
theorem Sums.finalise_points {x : Sums} (h : ∀ v ∈ x.verticals, v.points.length ≤ 4) (i : Nat) :
    ∀ v ∈ (x.finalise i).verticals, v.points.length ≤ 4 := by
  unfold Sums.finalise
  split
  · exact h
  · rename_i w hw
    intro v hv
    rcases List.mem_or_eq_of_mem_set hv with hv | rfl
    · exact h v hv
    · exact h w (List.mem_of_getElem? hw)

theorem Keeps.markEdgeStart (p : Port) (side : EdgeSide) (depth factor : Int) (s : State) :
    Keeps s (markEdgeStart p side depth factor s).1 := by
  refine .asHolder (fun c s hc => ?_) p s
  split
  · rename_i hp
    exact .of_calm (ph := .rest .ready) hc (hp ▸ RunPhase.calm_opened) (RunPhase.calm_rest _) rfl
      (fun h _ => forall_points_append h (Nat.zero_le 4)) (fun _ _ e => nomatch e)
  · rfl
  · rfl
  · rfl

theorem Keeps.beginVertical (p : Port) (s : State) : Keeps s (beginVertical p s).1 := by
  refine .asHolder (fun c s hc => ?_) p s
  split
  · rename_i hp
    dsimp only
    split
    · rfl
    · split
      · refine .of_calm (ph := .rest (.sounding _)) hc (hp ▸ RunPhase.calm_rest _) (RunPhase.calm_rest _) rfl (fun h _ => h)
          (fun _ v hv => ?_)
        cases hv
        exact Nat.zero_le 4
      · rfl
  · rfl

theorem Keeps.markBed (p : Port) (s : State) : Keeps s (markBed p s).1 := by
  refine .asHolder (fun c s hc => ?_) p s
  split
  · rename_i v hp
    exact .setRest hc hp _ (fun h w hw => by cases hw; exact h v rfl)
  · rfl

/-- An exposure starts for a vertical that has room for one more point. -/
theorem Keeps.startExposure {s : State} {c : RunContext} {v : Vertical} (hc : s.run.ctx = some c)
    (hp : c.phase = .rest (.points v)) (room : v.points.length < 4) (f : Fraction) :
    Keeps s ((s.startExposure c.meter c.target).setPhase c (.exposing v f)) := by
  refine .of_run (vs := s.run.verticals) (phase := some (.exposing v f)) (retrieve := s.outputs.retrieve) (exposing := true) rfl
    (fun k => (pointsFit_exposing ..).2 ⟨k.1, Nat.le_of_lt_succ room⟩) (fun k => ?_)
  rw [State.watched_phase hc, hp, linesFit_of_calm (RunPhase.calm_rest _)] at k
  exact (linesFit_exposing ..).2 ⟨k.1, rfl⟩

theorem Keeps.startPoint (p : Port) (fraction : Nat) (s : State) : Keeps s (startPoint p fraction s).1 := by
  refine .asHolder (fun c s hc => ?_) p s
  split
  · rename_i hp
    split
    · rfl
    · split
      · rfl
      · exact .startExposure hc hp (Nat.lt_of_not_le ‹_›) _
  · rfl

theorem Keeps.stopPoint (p : Port) (s : State) : Keeps s (stopPoint p s).1 := by
  refine .asHolder (fun c s hc => ?_) p s
  split
  · rename_i hp _
    exact .endExposure hc hp ..
  · rfl

theorem Keeps.endVertical (p : Port) (method : Code Method) (angle : Int) (s : State) :
    Keeps s (endVertical p method angle s).1 := by
  refine .asHolder (fun c s hc => ?_) p s
  split
  · rename_i v hp
    split
    · rfl
    · exact .setRest hc hp _ (fun h w hw => by cases hw; exact h v rfl)
  · rfl

theorem alterPoints_length (a : AlterArgs) (pts : List Point) : (alterPoints a pts).length = pts.length := by
  unfold alterPoints setExcluded
  cases a.excl <;> cases a.incl <;> simp

theorem Keeps.alter (p : Port) (a : AlterArgs) (s : State) : Keeps s (alter p a s).1 := by
  refine .asHolder (fun c s hc => ?_) p s
  split
  · rename_i v hp
    split
    · rfl
    · exact .setRest hc hp _ (fun h w hw => by cases hw; exact (alterPoints_length a v.points).le.trans (h v rfl))
  · rfl

theorem Keeps.accept (p : Port) (s : State) : Keeps s (accept p s).1 := by
  refine .asHolder (fun c s hc => ?_) p s
  split
  · rename_i v hp
    split
    · rfl
    · split
      · refine .trans ?_ (.postAll ..)
        refine .of_calm (ph := .rest .ready) hc (hp ▸ RunPhase.calm_rest _) (RunPhase.calm_rest _) rfl (fun h hv => ?_)
          (fun _ _ e => nomatch e)
        refine Sums.finalise_points (forall_points_append h ?_) _
        exact hv v (by rw [hp]; rfl)
      · rfl
  · rfl

theorem Keeps.redo (p : Port) (keepDepth : Code Bool) (s : State) : Keeps s (redo p keepDepth s).1 := by
  refine .asHolder (fun c s hc => ?_) p s
  split
  · rename_i v hp
    dsimp only
    split
    · rfl
    · exact .setRest hc hp _ (fun _ w hw => by cases hw; exact Nat.zero_le 4)
    · exact .setRest hc hp _ (fun _ w hw => by cases hw; exact Nat.zero_le 4)
  · rfl

theorem Keeps.markEdgeEnd (p : Port) (depth factor : Int) (s : State) : Keeps s (markEdgeEnd p depth factor s).1 := by
  refine .asHolder (fun c s hc => ?_) p s
  split
  · rename_i hp
    dsimp only
    split
    · rfl
    · split
      · refine .of_calm (ph := .finished) hc (hp ▸ RunPhase.calm_rest _) RunPhase.calm_finished rfl (fun h _ => ?_) (fun _ _ e => nomatch e)
        refine Sums.finalise_points (Sums.finalise_points (forall_points_append h ?_) _) _
        exact Nat.zero_le 4
      · rfl
  · rfl

theorem Keeps.closeRun (p : Port) (s : State) : Keeps s (closeRun p s).1 := by
  refine .asHolder (fun c s hc => ?_) p s
  split
  · rename_i hp
    refine .endRun (u := s) rfl (fun k => ?_) ..
    rw [State.watched_phase hc, hp] at k
    exact (linesFit_of_calm RunPhase.calm_finished ..).1 k
  · rfl

theorem Keeps.abandonRun (p : Port) (s : State) : Keeps s (abandonRun p s).1 := by
  refine .asHolder (fun c s hc => ?_) p s
  have phase := State.watched_phase hc
  dsimp only [reply]
  cases hp : c.phase with
  | exposing v f =>
    refine .endRun (s := s) (u := s.discardExposure) (retrieve := s.watched.retrieve) (exposing := false) rfl (fun k => ?_) ..
    rw [phase, hp, linesFit_exposing] at k
    exact ⟨k.1, rfl⟩
  | retrieving r =>
    refine .endRun (s := s) (u := s.setRetrieve false) (retrieve := false) (exposing := s.watched.exposing) rfl (fun k => ?_) ..
    rw [phase, hp, linesFit_retrieving] at k
    exact ⟨rfl, k.2⟩
  | opened => exact .endRun (u := s) rfl (fun k => (linesFit_of_calm RunPhase.calm_opened ..).1 (by rwa [phase, hp] at k)) ..
  | rest r => exact .endRun (u := s) rfl (fun k => (linesFit_of_calm (RunPhase.calm_rest r) ..).1 (by rwa [phase, hp] at k)) ..
  | finished => exact .endRun (u := s) rfl (fun k => (linesFit_of_calm RunPhase.calm_finished ..).1 (by rwa [phase, hp] at k)) ..

theorem Keeps.resumeRun (p : Port) (s : State) : Keeps s (resumeRun p s).1 := by
  refine .asHolder (fun c s hc => ?_) p s
  split
  · rename_i r hp
    split
    · rfl
    · refine .of_run (vs := s.run.verticals) (phase := some (.rest r)) (retrieve := false)
        (exposing := s.cableway.exposure.isSome) rfl (fun k => ?_) (fun k => ?_)
      · rw [State.watched_phase hc, hp, pointsFit_of_not_exposing (by simp [RunPhase.state])] at k
        exact (pointsFit_of_not_exposing (RunPhase.calm_rest r).2 _).2 k
      · rw [State.watched_phase hc, hp, linesFit_retrieving] at k
        exact (linesFit_of_calm (RunPhase.calm_rest r) ..).2 ⟨rfl, k.2⟩
  · rfl

/-! ### Every command -/

/-- Every request, whatever it answers. -/
theorem Keeps.request {i : Instr} {r : Request} (h : requestOf i = some r) (long : Bool) (s : State) :
    Keeps s (r.act long s).1 := by
  cases i <;> cases h
  case getPortStatus | getStage | getSensing | getClock | getLogStatus | getTrend | getLogSettings | getRatingStatus | getWarning |
      getWarningSettings | getAckSettings | getOutputs | readPosition | getCounterSettings | getRun | getRunSettings => exact .refl s
  case seekLog | setInitialPoint | surfaceMark => exact .of_watched rfl
  case readNotice => exact .readNotice ..
  case clearPort => exact .clearPort ..
  case setNoticeMask => exact .setNoticeMask ..
  case saveSettings => exact .saveSettings ..
  case restart => exact .restart ..
  case setFloatStage => exact .setFloatStage ..
  case setPressStage => exact .setPressStage ..
  case setSensing => exact .setSensing ..
  case setClock => exact .setClock ..
  case readLog => exact .readLog ..
  case advanceLog => exact .advanceLog ..
  case setLogSettings => exact .setLogSettings ..
  case ratingQuery => exact .ratingQuery ..
  case ratingBegin => exact .ratingBegin ..
  case ratingPoint => exact .ratingPoint ..
  case ratingTruncate => exact .ratingTruncate ..
  case ratingCommit => exact .ratingCommit ..
  case ratingCancel => exact .ratingCancel ..
  case readRating => exact .readRating ..
  case forceLevel => exact .forceLevel ..
  case setWarningSettings => exact .setWarningSettings ..
  case ack => exact .ack ..
  case setAction => exact .setAction ..
  case getAction => exact .getAction ..
  case setAckSettings => exact .setAckSettings ..
  case outputTest => exact .outputTest ..
  case setPattern => exact .setPattern ..
  case getPattern => exact .getPattern ..
  case setMeter => exact .setMeter ..
  case getMeter => exact .getMeter ..
  case setCounterSettings => exact .setCounterSettings ..
  case openRun => exact .openRun ..
  case takeRun => exact .takeRun ..
  case markEdgeStart => exact .markEdgeStart ..
  case markEdgeEnd => exact .markEdgeEnd ..
  case beginVertical => exact .beginVertical ..
  case markBed => exact .markBed ..
  case startPoint => exact .startPoint ..
  case stopPoint => exact .stopPoint ..
  case endVertical => exact .endVertical ..
  case alter => exact .alter ..
  case accept => exact .accept ..
  case redo => exact .redo ..
  case closeRun => exact .closeRun ..
  case abandonRun => exact .abandonRun ..
  case resumeRun => exact .resumeRun ..
  case setRunSettings => exact .setRunSettings ..
  case readResult => exact .readResult ..
  case readVertical => exact .readVertical ..

/-- A sensing unit whose line buffer is within its size or as it was. -/
theorem Keeps.setSensingUnit (s : State) (x : Sensing)
    (h : x.receiver.buffer.length ≤ 16 ∨ x.receiver.buffer = s.sensing.receiver.buffer) : Keeps s { s with sensing := x } :=
  .of_rings rfl (fun k => h.elim id (fun e => e ▸ k)) id id

theorem Keeps.exec {i : Instr} {s t : State} (e : exec i s = .next t) : Keeps s t :=
  exec_keeps (Inv := Keeps s)
    (stamp := fun u p h => h.trans (.stamp u p))
    (place := fun u p r h => h.trans (.place u p r))
    (exchange := fun _ _ _ h => h.trans (.setPort id))
    (release := fun u p out n h => h.trans (.release u p out n))
    (request := fun _ _ long _ hr _ h => h.trans (.request hr long _))
    (count := fun u h => h.trans (.stationClockCount u))
    (close := fun u h => h.trans (.minuteClose u))
    (sensing := fun u x hx h => h.trans (.setSensingUnit u x hx))
    (cableway := fun _ _ hx h => h.trans (.setCableway (congrArg _ hx)))
    (meter := fun u ms h => h.trans (.meterClosure u ms))
    (expose := fun u ms waits h => h.trans (.exposureExpiry u ms waits))
    (phase := fun u out ms h => h.trans (.phaseExpiry u out ms))
    (idle := fun u h => h.trans (.idleExpiry u))
    (deadline := fun u h => h.trans (.deadlineExpiry u))
    (completion := fun u h => h.trans (.saveCompletion u))
    (on := fun u held f t d h => h.trans (.powerOn u held f t d))
    (loss := fun u h => h.trans (.mainPowerLoss u))
    (.refl s) e

/-- A step on an empty queue changes nothing; otherwise it is the front command on the queue's rest, which no invariant watches. -/
theorem Keeps.step {s t : State} (e : step s = .next t) : Keeps s t := by
  unfold Machine.step at e
  split at e
  · cases e
    rfl
  · rename_i c rest _
    exact .trans (t := { s with pending := rest }) (.of_watched rfl) (.exec e)

/-- Settles O6: the four invariants are carried through every operation together (`Keeps`). -/
theorem stepKeepsBoundsAndLines : Obligations.StepKeepsBoundsAndLines :=
  ⟨fun _ _ hq hr e => ⟨(Keeps.step e).queues hq, (Keeps.step e).rings hr⟩, fun _ _ hp e => (Keeps.step e).points hp,
    fun _ _ hl e => (Keeps.step e).lines hl⟩

end Sys2Proof.Machine
end

section
/-! Quadrature counters (O24), the fits of the datums (O26), the settings with optional fields (O27) and the reads of what stands
(O59). -/
namespace Sys2Proof.Machine

/-! ### What a command is when it is taken -/

/-- Under main power an event acts (log 9). -/
theorem event_of_powered {s : State} (h : s.powered = true) (f : State → State) : event f s = .next (f s) := by
  simp [event, State.whenPowered, h]

/-- A request that is taken and refused (R180, R189). -/
theorem exec_refused {i : Instr} {r : Request} {s : State} {st : Status} (hr : requestOf i = some r) (h : s.takes r.port)
    (act : r.act false (s.stamp r.port) = refuse (s.stamp r.port) st) :
    exec i s = .next (s.refusedOn r.port r.code st) := by
  rw [exec_of_request hr, State.takeRequest_of_takes h, act]
  exact congrArg _ (State.answer_answered rfl fun q => by simp [State.stamp])

/-- A request that is taken and answered, whose block leaves the ports alone (R180, R182). -/
theorem exec_answered {i : Instr} {r : Request} {s u : State} {st : Status} {b : Body} (hr : requestOf i = some r)
    (h : s.takes r.port) (ports : u.ports = s.ports)
    (act : r.act false (s.stamp r.port) = reply { u with ports := (s.stamp r.port).ports } st b) :
    exec i s = .next (u.answered r.port s.clock.time r.code st b) := by
  have port : ∀ q, u.port q = s.port q := fun q => congrArg (PerPort.get · q) ports
  rw [exec_of_request hr, State.takeRequest_of_takes h, act]
  refine congrArg _ (State.answer_answered rfl fun q => ?_)
  rw [port, port]
  exact State.port_setPort ..

/-- A request of the settings during a save is refused with BUSY (R195). -/
theorem exec_busy {i : Instr} {r : Request} {f : State → Answer} {s : State} (hr : requestOf i = some r)
    (hf : r.act false = unlessSaving f) (h : s.takes r.port) (saving : s.save ≠ none) :
    exec i s = .next (s.refusedOn r.port r.code .busy) :=
  exec_refused hr h (by rw [hf]; exact unlessSaving_of_saving (s := s.stamp r.port) saving f)

/-- A request of the settings without a save, refused for a cause of its own. -/
theorem exec_setting_refused {i : Instr} {r : Request} {f : State → Answer} {s : State} {st : Status}
    (hr : requestOf i = some r) (hf : r.act false = unlessSaving f) (h : s.takes r.port) (idle : s.save = none)
    (act : f (s.stamp r.port) = refuse (s.stamp r.port) st) : exec i s = .next (s.refusedOn r.port r.code st) :=
  exec_refused hr h (by rw [hf, unlessSaving_of_idle (s := s.stamp r.port) idle, act])

/-- A request of the settings without a save, answered. -/
theorem exec_setting {i : Instr} {r : Request} {f : State → Answer} {s u : State} {st : Status} {b : Body}
    (hr : requestOf i = some r) (hf : r.act false = unlessSaving f) (h : s.takes r.port) (idle : s.save = none)
    (ports : u.ports = s.ports)
    (act : f (s.stamp r.port) = reply { u with ports := (s.stamp r.port).ports } st b) :
    exec i s = .next (u.answered r.port s.clock.time r.code st b) :=
  exec_answered hr h ports (by rw [hf, unlessSaving_of_idle (s := s.stamp r.port) idle, act])

/-! ### Quadrature counters -/

/-- The four steps forward of the cycle 00, 01, 11, 10 (R2). -/
theorem mem_forward_iff (x y : LevelPair) :
    (x, y) ∈ [((⟨false, false⟩, ⟨false, true⟩) : LevelPair × LevelPair), (⟨false, true⟩, ⟨true, true⟩),
      (⟨true, true⟩, ⟨true, false⟩), (⟨true, false⟩, ⟨false, false⟩)] ↔ y = LevelPair.next x := by
  obtain ⟨xa, xb⟩ := x
  obtain ⟨ya, yb⟩ := y
  revert xa xb ya yb
  decide

/-- Settles O24: the list of forward steps is the successor in the cycle, and the ends of the count are the same bounds. -/
theorem quadratureCounting : Obligations.QuadratureCounting := by
  intro pair s powered forward moved
  have moved_eq : ∀ q, moved q = q.step pair := by
    intro q
    simp only [moved, forward, mem_forward_iff, Quad.step]
    split
    · rfl
    · split
      · split <;> split <;> first | rfl | omega
      · split
        · split <;> split <;> first | rfl | omega
        · rfl
  simp only [moved_eq]
  exact ⟨event_of_powered powered _, event_of_powered powered _, event_of_powered powered _⟩

/-! ### The fits of the datums -/

/-- Settles O26: each fit forms the datum from the two clamps, once the save and the reading are looked at. -/
theorem fitStages : Obligations.FitStages := by
  intro p v s taken c w fit moved
  refine ⟨fun saving => ⟨exec_busy (i := .setFloatStage p v) rfl rfl taken saving,
      exec_busy (i := .setPressStage p v) rfl rfl taken saving⟩, fun idle => ?_, fun idle unusable => ?_, fun idle r reading fresh => ?_⟩
  · exact exec_setting (i := .setFloatStage p v) rfl rfl taken idle rfl rfl
  · refine exec_setting_refused (i := .setPressStage p v) rfl rfl taken idle ?_
    have no_offer : pressOffer (s.stamp p).cfg.sensing (s.stamp p).sensing = none := by
      unfold pressOffer
      cases reading : s.sensing.reading with
      | none => simp [reading]
      | some r =>
        have old := unusable.resolve_left (by simp [reading])
        simp only [State.stamp_sensing, reading]
        exact if_neg (not_le.2 old)
    dsimp only
    rw [no_offer]
    split
    · contradiction
    · rfl
  · refine exec_setting (i := .setPressStage p v) rfl rfl taken idle rfl ?_
    have offer : pressOffer (s.stamp p).cfg.sensing (s.stamp p).sensing = some (pressStage c r) := by
      simp only [pressOffer, State.stamp_sensing, reading]
      exact if_pos fresh
    dsimp only
    rw [offer, State.stamp_sensing, reading]
    rfl

/-! ### Settings with optional fields -/

/-- PRIMARY as it is given, or as it stands (R20). -/
theorem primaryField_eq {field : Option (Code Gauge)} {old g : Gauge} (h : field = some (.named g) ∨ field = none ∧ g = old) :
    primaryField field old = some g := by
  obtain rfl | ⟨rfl, rfl⟩ := h <;> rfl

/-- Each of the seven intervals is read from its own minutes (R43). -/
theorem intervalOf_minutes (j : Interval) : intervalOf j.minutes = some j := by cases j <;> rfl

theorem intervalOf_eq_none {n : Nat} (h : n ∉ [1, 2, 5, 10, 15, 30, 60]) : intervalOf n = none := by
  unfold intervalOf
  split <;> simp_all

/-- A pitch that changed sets the fault of its counter (R122). -/
theorem Quad.repitch_eq (q : Quad) (new old : Int) :
    q.repitch (decide (new ≠ old)) = { q with fault := if new = old then q.fault else some .pitchChanged } := by
  by_cases h : new = old <;> simp [Quad.repitch, h]

/-- Settles O27: each field is the old value or the clamped new one (`optClamp_eq`, `optCount_eq`). -/
theorem optionalSettings : Obligations.OptionalSettings := by
  refine ⟨⟨rfl, rfl, rfl⟩, fun p s taken => ⟨fun a w i x y m saving => ⟨?_, ?_, ?_⟩, fun a idle => ⟨fun outside => ?_, ?_⟩,
    fun w i idle => ⟨?_, ?_⟩, fun x y m idle => ?_, ?_⟩⟩
  · exact exec_busy (i := .setSensing p a) rfl rfl taken saving
  · exact exec_busy (i := .setLogSettings p w i) rfl rfl taken saving
  · exact exec_busy (i := .setCounterSettings p x y m) rfl rfl taken saving
  · exact exec_setting_refused (i := .setSensing p a) rfl rfl taken idle (by rw [outside]; rfl)
  · intro g primary
    refine exec_setting (i := .setSensing p a) rfl rfl taken idle rfl ?_
    dsimp only
    rw [State.stamp_cfg, primaryField_eq primary]
    simp only [optClamp_eq]
    rfl
  · rintro n rfl outside
    refine exec_setting_refused (i := .setLogSettings p w (some n)) rfl rfl taken idle ?_
    simp only [optField, intervalOf_eq_none outside]
    rfl
  · intro j interval
    refine exec_setting (i := .setLogSettings p w i) rfl rfl taken idle rfl ?_
    obtain rfl | ⟨rfl, rfl⟩ := interval
    · simp only [optField, intervalOf_minutes, optCount_eq]
      rfl
    · simp only [optField, optCount_eq]
      rfl
  · refine exec_setting (i := .setCounterSettings p x y m) rfl rfl taken idle rfl ?_
    simp only [optClamp_eq, optCount_eq, Quad.repitch_eq]
    rfl
  · exact exec_answered (i := .getCounterSettings p) (u := s) rfl taken rfl rfl

/-! ### Reads -/

/-- A read gives what stands and changes nothing but the answer at its port. -/
theorem exec_read {i : Instr} {r : Request} {s : State} {b : Body} (hr : requestOf i = some r) (h : s.takes r.port)
    (act : r.act false (s.stamp r.port) = reply (s.stamp r.port) .ok b) :
    exec i s = .next (s.answered r.port s.clock.time r.code .ok b) :=
  exec_answered hr h rfl act

/-- The oldest sequence number, or the next one on an empty log (R36). -/
theorem LogUnit.oldest_eq (l : LogUnit) : l.oldest = (l.entries.head?.map LogEntry.seq).getD l.nextSeq := by
  unfold LogUnit.oldest
  cases l.entries <;> rfl

/-- What a port status request tells of a port: at its own port it counts as the last request (R180, R187). -/
theorem portReport_stamp (s : State) (p q : Port) :
    portReport (s.stamp p) q =
      { portReport s q with lastRequest := if q = p then some s.clock.time else (s.port q).lastRequest } := by
  have port : (s.stamp p).port q =
      { s.port q with lastRequest := if q = p then some s.clock.time else (s.port q).lastRequest } := by
    unfold State.stamp
    by_cases h : q = p <;> simp [h]
  unfold portReport
  rw [port]
  rfl

/-- Settles O59: the body of each read is the report of its block on the state as it stands. -/
theorem statusReads : Obligations.StatusReads := by
  intro p s taken gives c x l w
  refine ⟨?_, ?_, ?_, ?_, ?_, ?_, ?_, ?_, ?_, ?_, ?_, ?_⟩
  · exact exec_read (i := .getSensing p) rfl taken rfl
  · exact exec_read (i := .getClock p) rfl taken rfl
  · exact exec_read (i := .getLogSettings p) rfl taken rfl
  · exact exec_read (i := .getAckSettings p) rfl taken rfl
  · exact exec_read (i := .getWarningSettings p) rfl taken rfl
  · exact exec_read (i := .getStage p) rfl taken rfl
  · refine exec_read (i := .getLogStatus p) rfl taken ?_
    simp only [getLogStatus, logStatus, LogUnit.oldest_eq]
    rfl
  · exact exec_read (i := .getTrend p) rfl taken rfl
  · refine exec_read (i := .getRatingStatus p) rfl taken ?_
    have idle : ∀ o : Option Port, (o.map fun _ => s.rating.secondsLeft) = if o = none then none else some (max 1 s.rating.idle) := by
      intro o
      cases o <;> rfl
    simp only [getRatingStatus, ratingStatus, State.stamp_rating, idle]
    rfl
  · exact exec_read (i := .getWarning p) rfl taken rfl
  · exact exec_read (i := .getOutputs p) rfl taken rfl
  · refine exec_read (i := .getPortStatus p) rfl taken ?_
    simp only [getPortStatus, portReport_stamp]
    rfl

end Sys2Proof.Machine
end

section
/-! Reset (O5), the loss and return of main power (O57) and the station restart (O58). -/
namespace Sys2Proof.Machine

/-! ### Reset -/

/-- Settles O5: the reset state is read off, invariant by invariant. -/
theorem resetMeetsInvariants : Obligations.ResetMeetsInvariants := by
  have bank : BankValid factoryBank ∧ BankSized factoryBank := by
    simp [BankValid, BankSized, RatingPoint.inRange, factoryBank]
  have thresholds : thresholdsOrdered factoryWarning := ⟨by decide, by decide, by decide, by decide⟩
  have engine : idleEngine.sound := ⟨by decide, by decide⟩
  refine ⟨?_, ?_, ?_, ⟨thresholds, thresholds⟩, ⟨bank, bank, ?_⟩, ?_, ⟨⟨engine, engine⟩, fun _ => rfl⟩, ?_, ⟨?_, ?_⟩, ?_, ?_, ?_⟩
  · intro p
    cases p <;> decide
  · exact ⟨by decide, by decide, by decide⟩
  · exact ⟨by decide, by decide⟩
  · exact ⟨by decide, by simp [State.reset, startRating]⟩
  · exact fun _ e => nomatch e
  · refine ⟨by decide, by decide, by decide, by decide, fun p => ?_⟩
    cases p <;> decide
  · exact fun _ e => nomatch e
  · intro p
    cases p <;> rfl
  · exact fun _ e => nomatch e
  · exact fun _ e => nomatch e
  · exact ⟨by simp [State.reset, startRun], fun _ e => nomatch e⟩

/-! ### Notices of a start -/

/-- A queue with room takes a record where its mask admits it (R183). -/
theorem PortState.received_of_room {q : PortState} (room : q.queue.length < 16) (mask : BitVec 18) (n : Notice) :
    q.received mask n = { q with queue := q.queue ++ [n].filter fun m => admits mask m.kind } := by
  have taken : enqueue q.queue n = q.queue ++ [n] := if_pos room
  unfold PortState.received
  by_cases h : admits mask n.kind = true
  · simp [h, taken]
  · simp [h]

/-- A start-up notice at a port with room (R197). -/
theorem State.port_postWhen {s : State} {q : Port} (room : (s.port q).queue.length < 16) (cond : Bool) (n : Notice) :
    (s.postWhen cond n).port q = { s.port q with
      queue := (s.port q).queue ++ (if cond then [n] else []).filter fun m => admits (s.cfg.masks.get q) m.kind } := by
  unfold State.postWhen
  cases cond with
  | true => rw [if_pos rfl, State.port_postAll, PortState.received_of_room room]; rfl
  | false => simp

/-- Postings change the ports alone (R183). -/
theorem State.postAll_frame (s : State) (n : Notice) : s.postAll n = { s with ports := (s.postAll n).ports } := by
  rw [State.postAll_eq]

theorem State.postWhen_frame (s : State) (cond : Bool) (n : Notice) :
    s.postWhen cond n = { s with ports := (s.postWhen cond n).ports } := by
  unfold State.postWhen
  split
  · exact State.postAll_frame ..
  · rfl

theorem State.postWhen_cfg (s : State) (cond : Bool) (n : Notice) : (s.postWhen cond n).cfg = s.cfg := by
  rw [State.postWhen_frame]

/-- The three notices of a start at a port that starts, in their order, as its mask admits them (R190, R197). -/
theorem State.port_startNotices {u : State} {q : Port} (start : u.port q = startPort) (b c : Bool) (x y z : Notice) :
    (((u.postWhen b x).postWhen c y).postAll z).port q = { startPort with
      queue := ((if b then [x] else []) ++ (if c then [y] else []) ++ [z]).filter fun m => admits (u.cfg.masks.get q) m.kind } := by
  have short : ∀ (b : Bool) (n : Notice) (m : Notice → Bool), ((if b then [n] else []).filter m).length ≤ 1 := by
    intro b n m
    exact (List.length_filter_le ..).trans (by cases b <;> simp)
  have first : (u.postWhen b x).port q = { startPort with
      queue := (if b then [x] else []).filter fun m => admits (u.cfg.masks.get q) m.kind } := by
    rw [State.port_postWhen (by rw [start]; decide), start]
    rfl
  have second : ((u.postWhen b x).postWhen c y).port q = { startPort with
      queue := ((if b then [x] else []) ++ (if c then [y] else [])).filter fun m => admits (u.cfg.masks.get q) m.kind } := by
    rw [State.port_postWhen (by rw [first]; exact (short ..).trans_lt (by decide)), first, State.postWhen_cfg, List.filter_append]
  have room : (((u.postWhen b x).postWhen c y).port q).queue.length < 16 := by
    rw [second, List.filter_append, List.length_append]
    exact (Nat.add_le_add (short ..) (short ..)).trans_lt (by decide)
  rw [State.port_postAll, PortState.received_of_room room, second, State.postWhen_cfg, State.postWhen_cfg,
    List.filter_append (l₂ := [z])]

/-! ### Power -/

/-- What a power-on restores of retained memory (R196). -/
def State.restored (s : State) (held : Bool) : Retained := if held && s.retainedMark then s.retained else clearedRetained

/-- An item of retained memory stands where it passes its check, and is cleared otherwise. -/
theorem State.restored_item {α : Type} (s : State) (held : Bool) (item : Retained → α) :
    item (s.restored held) = if held && s.retainedMark then item s.retained else item clearedRetained :=
  apply_ite item ..

/-- Every block started, before the notices of the start (R197). -/
def State.started (s : State) (held : Bool) (f t d : LevelPair) : State :=
  s.startBlocks s.loadedSettings (s.restored held) f t d

/-- The notices of a power-on change the ports alone. -/
theorem powerOn_frame (held : Bool) (f t d : LevelPair) (s : State) :
    powerOn held f t d s = { s.started held f t d with ports := (powerOn held f t d s).ports } := by
  have notices : ∀ (u : State) (b c : Bool) (x y z : Notice),
      ((u.postWhen b x).postWhen c y).postAll z = { u with ports := (((u.postWhen b x).postWhen c y).postAll z).ports } := by
    intro u b c x y z
    rw [State.postAll_frame, State.postWhen_frame _ c, State.postWhen_frame _ b]
  exact notices ..

/-- A port after power-on: empty but for the notices of the start (R190, R197). -/
theorem powerOn_port (held : Bool) (f t d : LevelPair) (s : State) (q : Port) :
    (powerOn held f t d s).port q = { startPort with
      queue := ((if !s.store.valid then [bareNotice .settingsDefaulted (s.restored held).clock.time] else []) ++
        (if !(held && s.retainedMark) then [bareNotice .retainedLost (s.restored held).clock.time] else []) ++
        [restartedAtPowerOn (s.restored held).level (s.restored held).clock.time]).filter
          fun n => admits (s.loadedSettings.masks.get q) n.kind } :=
  State.port_startNotices (u := s.started held f t d) (by cases q <;> rfl) ..

/-- Settles O57: a power-on is its started blocks with the notices of the start at the ports. -/
theorem powerLossAndPowerOn : Obligations.PowerLossAndPowerOn := by
  refine ⟨fun s powered => event_of_powered powered _, fun held f t d s => ⟨powerOn held f t d s, rfl, ?_⟩⟩
  intro kept level clock
  have level_eq : level = (s.restored held).level := (s.restored_item held Retained.level).symm
  have clock_eq : clock = (s.restored held).clock := (s.restored_item held Retained.clock).symm
  clear_value level clock
  subst level_eq clock_eq
  have frame := powerOn_frame held f t d s
  have item := @State.restored_item
  refine ⟨?_, ?_, ?_, ?_, ?_, ?_, ?_, ?_, fun q => ?_⟩
  · rw [frame]
    exact ⟨rfl, rfl, rfl, rfl⟩
  · rw [frame]
    exact ⟨rfl, item s held Retained.entries, item s held Retained.nextSeq, item s held Retained.cursors,
      item s held Retained.results, item s held Retained.counter, item s held Retained.generation⟩
  · rw [frame]
    rfl
  · rw [frame]
    rfl
  · rw [frame]
    exact ⟨rfl, rfl, rfl, rfl, rfl⟩
  · rw [frame]
    rfl
  · rw [frame]
    rfl
  · rw [frame]
    rfl
  · have cfg : (powerOn held f t d s).cfg = s.loadedSettings := by rw [frame]; rfl
    have flip : ∀ (b : Bool) (n : Notice), (if !b then [n] else []) = if b then [] else [n] := by
      intro b n
      cases b <;> rfl
    rw [powerOn_port, cfg, flip, flip]
    rfl

/-! ### Restart -/

/-- Settles O58: a restart is its started blocks with RESTARTED at every port. -/
theorem restart_holds : Obligations.Restart := by
  intro p s taken
  let u := (s.stamp p).restartBlocks
  let n := notice .restarted s.clock.time (some (.level s.warning.level)) (some .restart) (some (.port p))
  have port : ∀ q, u.port q =
      { startPort with lastRequest := if q = p then some s.clock.time else (s.port q).lastRequest, shiftedOut := (s.port q).shiftedOut } := by
    intro q
    have started : u.port q = { startPort with
        lastRequest := ((s.stamp p).port q).lastRequest, shiftedOut := ((s.stamp p).port q).shiftedOut } := by cases q <;> rfl
    rw [started, State.stamp, State.port_setPort]
    by_cases h : q = p <;> simp [h]
  refine ⟨u.postAll n, ?_, ?_⟩
  · rw [exec_of_request (i := .restart p) rfl, State.takeRequest_of_takes taken]
    rfl
  · rw [State.postAll_frame]
    refine ⟨⟨taken.1, rfl, rfl, rfl, rfl⟩, rfl, rfl, ⟨rfl, rfl, rfl⟩, rfl, rfl, rfl, rfl, fun q => ?_⟩
    change (u.postAll n).port q = _
    rw [State.port_postAll, PortState.received_of_room (by rw [port]; exact Nat.zero_lt_succ 15), port]
    have one : ∀ m : Notice → Bool, [n].filter m = if m n then [n] else [] := fun m => by simp [List.filter_cons]
    rw [one]
    rfl

end Sys2Proof.Machine
end

section
/-! The count of the station clock (O13). -/
namespace Sys2Proof.Machine

/-! ### What counts with the clock -/

theorem Clock.count_eq (c : Clock) :
    c.count = ⟨(c.time + 1) % 4294967296, c.unset || decide (4294967295 ≤ c.time), c.setAge.map fun a => min 4294967295 (a + 1)⟩ := by
  have wraps : two32 ≤ c.time + 1 ↔ 4294967295 ≤ c.time := Nat.succ_le_succ_iff
  simp only [Clock.count, wraps]
  rfl

theorem RunContext.count_eq :
    RunContext.count = fun c => { c with quiet := if c.holder.isSome then min 65535 (c.quiet + 1) else c.quiet } := by
  funext c
  obtain ⟨_, _, holder⟩ := c
  cases holder <;> rfl

theorem RatingUnit.count_eq (r : RatingUnit) : r.count = { r with idle := if r.claim.isSome then r.idle - 1 else r.idle } := by
  obtain ⟨_, _, claim⟩ := r
  cases claim <;> rfl

/-- The accumulator takes the value and the count of the source the sample names; a held one gives its value to the last held
(R27). -/
theorem Accumulator.take_eq (a : Accumulator) (x : Sample) (sensor : SensorState) :
    a.take x sensor =
      { sum := if x.source = .held then a.sum else a.sum + x.value.getD 0
        accFloat := if x.source = .float then a.accFloat + 1 else a.accFloat
        accPress := if x.source = .press then a.accPress + 1 else a.accPress
        held := if x.source = .held then a.held + 1 else a.held
        marks := ⟨a.marks.reseated || x.marks.reseated, a.marks.clamped || x.marks.clamped, a.marks.disagree || x.marks.disagree⟩
        lastHeld := if x.source = .held then x.value else a.lastHeld
        sensor := some sensor } := by
  unfold Accumulator.take
  cases x.source <;> rfl

/-! ### The order of the notices and the sample -/

/-- The log unit takes a sample whatever was posted before: a posting reaches the ports alone. -/
theorem State.takeSample_postEach (s : State) (ns : List Notice) : (s.postEach ns).takeSample = s.takeSample.postEach ns := by
  induction ns generalizing s with
  | nil => rfl
  | cons n ns ih =>
    have posted : (s.postAll n).takeSample = s.takeSample.postAll n := by
      rw [State.postAll_eq, State.postAll_eq]
      rfl
    exact (ih (s.postAll n)).trans (by rw [posted]; rfl)

/-! ### What fell due at the last count -/

theorem State.settle_of_nothing_due {s : State} (close : s.log.closeDue = false)
    (idle : s.rating.claim = none ∨ 0 < s.rating.idle) (deadline : ∀ r, s.warning.ack = some r → 0 < r.timer) : s.settle = s := by
  have idle_eq : s.idleExpiry = s := by
    refine if_neg fun ⟨claimed, due⟩ => ?_
    rcases idle with free | left
    · simp [free] at claimed
    · omega
  have deadline_eq : s.deadlineExpiry = s := by
    unfold State.deadlineExpiry
    split
    · rfl
    · exact if_neg (Nat.ne_of_gt (deadline _ ‹_›))
  have close_eq : minuteClose s = s := if_neg (by simp [close])
  rw [State.settle, idle_eq, deadline_eq, close_eq]

/-- Settles O13: what fell due is settled first, and the sample joins the log whether its notices are posted before or after. -/
theorem clockCount : Obligations.ClockCount := by
  intro s tick
  have tick_eq : tick = Clock.count := funext fun c => c.count_eq.symm
  clear_value tick
  subst tick_eq
  refine ⟨fun off => ?_, fun on => ⟨s.idleExpiry, s.idleExpiry.deadlineExpiry, s.settle, event_of_powered on _,
    event_of_powered (by simpa using on) _, event_of_powered (by simpa using on) _, State.settle_of_nothing_due, ?_⟩⟩
  · exact congrArg _ (if_neg (by simp [off]))
  · have counted : exec .stationClockCount s = .next (s.settle.countAll.senseSecond).takeSample := congrArg _ (if_pos on)
    rw [counted]
    generalize s.settle = u
    intro old new x acc taken told notices
    refine congrArg _ ((State.takeSample_postEach ..).trans ?_)
    simp only [State.takeSample, Accumulator.take_eq, State.countAll, RunContext.count_eq, RatingUnit.count_eq]
    rfl

end Sys2Proof.Machine
end

section
/-! The sample expiry (O14): the disagreement check, the step filter and the tries of both gauges, and what they leave. -/
namespace Sys2Proof.Machine

/-! ### The disagreement check -/

/-- The check changes DISAGREE and the two counts alone (R16). -/
theorem checkDisagree_frame (agreeMm : Int) (f p : Option Marked) (x : Sensing) :
    checkDisagree agreeMm f p x = { x with
      disagree := (checkDisagree agreeMm f p x).disagree
      disagreeCount := (checkDisagree agreeMm f p x).disagreeCount
      agreeCount := (checkDisagree agreeMm f p x).agreeCount } := by
  unfold checkDisagree
  split
  · dsimp only
    split <;> split <;> rfl
  · rfl

theorem checkDisagree_of_none (agreeMm : Int) {f p : Option Marked} (h : f = none ∨ p = none) (x : Sensing) :
    checkDisagree agreeMm f p x = x := by
  obtain rfl | rfl := h
  · rfl
  · cases f <;> rfl

/-- A count that stops at 60 reaches it from 59 on. -/
theorem raiseTo_eq_limit_iff (n : Nat) : raiseTo 60 n 1 = 60 ↔ 59 ≤ n := by
  unfold raiseTo
  omega

/-- The stages differ: the sixtieth time in a row sets DISAGREE (R16). -/
theorem checkDisagree_apart {agreeMm : Int} {f p : Marked} (h : agreeMm < |f.mm - p.mm|) (x : Sensing) :
    checkDisagree agreeMm (some f) (some p) x =
      if 59 ≤ x.disagreeCount ∧ x.disagree = false then { x with disagree := true, disagreeCount := 0, agreeCount := 0 }
      else { x with disagreeCount := min 60 (x.disagreeCount + 1), agreeCount := 0 } := by
  simp only [checkDisagree, if_pos h, raiseTo_eq_limit_iff]
  rfl

/-- The stages agree: the sixtieth time in a row clears DISAGREE (R16). -/
theorem checkDisagree_close {agreeMm : Int} {f p : Marked} (h : |f.mm - p.mm| ≤ agreeMm) (x : Sensing) :
    checkDisagree agreeMm (some f) (some p) x =
      if 59 ≤ x.agreeCount ∧ x.disagree = true then { x with disagree := false, disagreeCount := 0, agreeCount := 0 }
      else { x with disagreeCount := 0, agreeCount := min 60 (x.agreeCount + 1) } := by
  simp only [checkDisagree, if_neg (not_lt.2 h), raiseTo_eq_limit_iff]
  rfl

/-! ### The step filter -/

/-- A stage lies outside the step limit of the last accepted one (R12). -/
def outsideStep (stepMm : Int) (last : Option Marked) (m : Marked) : Bool :=
  last.any fun l => decide (stepMm < |m.mm - l.mm|)

/-- A stage offered by a gauge is accepted (R12, R13). -/
def Accepts (stepMm : Int) (last : Option Marked) (g : GaugeFilter) (m : Marked) : Prop :=
  last = none ∨ g.reseat = true ∨ outsideStep stepMm last m = false ∨ 2 ≤ g.rejects

theorem stepFilter_accepted {stepMm : Int} {last : Option Marked} {g : GaugeFilter} {m : Marked} (h : Accepts stepMm last g m) :
    stepFilter stepMm last g m = acceptCandidate m (g.reseat || outsideStep stepMm last m) := by
  unfold stepFilter
  cases last with
  | none => simp [outsideStep]
  | some l =>
    by_cases reseat : g.reseat = true
    · simp [reseat]
    · by_cases near : |m.mm - l.mm| ≤ stepMm
      · simp [reseat, near, outsideStep, not_lt.2 near]
      · have third : 2 ≤ g.rejects := by simpa [Accepts, reseat, outsideStep, near] using h
        have limit : 3 ≤ g.rejects + 1 := by omega
        simp [reseat, near, limit, outsideStep, not_le.1 near]

theorem stepFilter_rejected {stepMm : Int} {last : Option Marked} {g : GaugeFilter} {m : Marked} (h : ¬ Accepts stepMm last g m) :
    stepFilter stepMm last g m = ⟨none, ⟨g.rejects + 1, false⟩⟩ := by
  simp only [Accepts, not_or] at h
  obtain ⟨some_last, reseat, outside, few⟩ := h
  unfold stepFilter
  cases last with
  | none => exact absurd rfl some_last
  | some l =>
    have far : ¬ |m.mm - l.mm| ≤ stepMm := by simpa [outsideStep] using outside
    have below : ¬ 3 ≤ g.rejects + 1 := by omega
    simp only [if_neg reseat, if_neg far, if_neg below]

/-! ### The sample of both tries -/

/-- A sample is of an accepted stage, which becomes the last accepted one, or is held and repeats it (R12, R14). -/
theorem formSample_cases (primary : Gauge) (t : Tries) (last : Option Marked) (disagree : Bool) :
    (∃ m r, (formSample primary t last disagree).source ≠ .held ∧ (formSample primary t last disagree).value = some m.mm ∧
      (formSample primary t last disagree).marks = ⟨r, m.clamped, disagree⟩ ∧ newAccepted t last = some m) ∨
    formSample primary t last disagree = ⟨last.map Marked.mm, .held, ⟨false, last.any Marked.clamped, disagree⟩⟩ ∧
      newAccepted t last = last := by
  have tried : ∀ g, sourceOf g ≠ .held := by
    intro g
    cases g <;> exact nofun
  unfold formSample newAccepted
  cases t.first.accepted with
  | some a => exact .inl ⟨a.1, a.2, tried _, rfl, rfl, rfl⟩
  | none => cases t.second.accepted with
    | some a => exact .inl ⟨a.1, a.2, tried _, rfl, rfl, rfl⟩
    | none => cases last <;> exact .inr ⟨rfl, rfl⟩

/-- The first gauge accepts: the second is not tried (R12). -/
theorem tryBoth_first {stepMm : Int} {last : Option Marked} {g1 : GaugeFilter} {m : Marked} (h : Accepts stepMm last g1 m)
    (g2 : GaugeFilter) (o2 : Option Marked) :
    tryBoth stepMm last g1 g2 (some m) o2 =
      ⟨acceptCandidate m (g1.reseat || outsideStep stepMm last m), ⟨none, { g2 with rejects := 0 }⟩⟩ := by
  simp only [tryBoth, tryGauge, stepFilter_accepted h]
  rfl

/-- The first gauge gives nothing: the second is tried with what it offers (R12). -/
theorem tryBoth_second {stepMm : Int} {last : Option Marked} {g1 : GaugeFilter} {o1 : Option Marked}
    (h : o1 = none ∨ ∃ m, o1 = some m ∧ ¬ Accepts stepMm last g1 m) (g2 : GaugeFilter) (o2 : Option Marked) :
    tryBoth stepMm last g1 g2 o1 o2 =
      ⟨⟨none, if o1 = none then { g1 with rejects := 0 } else ⟨g1.rejects + 1, false⟩⟩, tryGauge stepMm last g2 o2⟩ := by
  obtain rfl | ⟨m, rfl, rejected⟩ := h
  · rfl
  · simp only [tryBoth, tryGauge, stepFilter_rejected rejected]
    rfl

/-! ### The expiry as a whole -/

/-- The tries of an expiry, the gauge of PRIMARY first (R11). -/
def sampleTries (c : SensingSettings) (x : Sensing) : Tries :=
  match c.primary with
  | .float => tryBoth c.stepMm x.lastAccepted x.floatFilter x.pressFilter (floatOffer c x) (pressOffer c x)
  | .press => tryBoth c.stepMm x.lastAccepted x.pressFilter x.floatFilter (pressOffer c x) (floatOffer c x)

/-- The disagreement check of an expiry (R16). -/
def sampleCheck (c : SensingSettings) (x : Sensing) : Sensing := checkDisagree c.agreeMm (floatOffer c x) (pressOffer c x) x

/-- The sample of an expiry (R14). -/
def sampleFormed (c : SensingSettings) (x : Sensing) : Sample :=
  formSample c.primary (sampleTries c x) x.lastAccepted (sampleCheck c x).disagree

theorem ageReading_eq (x : Sensing) :
    ageReading x = { x with readingAge := if x.reading = none then x.readingAge else min 65535 (x.readingAge + 1) } := by
  obtain ⟨_, _, reading⟩ := x
  cases reading <;> rfl

theorem updateSensor_eq (holdLimitS : Int) (held : Bool) (x : Sensing) :
    updateSensor holdLimitS held x = { x with
      sensorState := if held then heldSensorState x.sensorState (decide (holdLimitS ≤ ((min 65535 (x.heldSeconds + 1) : Nat) : Int)))
        else .ok
      heldSeconds := if held then min 65535 (x.heldSeconds + 1) else 0 } := by
  cases held <;> rfl

/-- Every field after a sample expiry, from the readings `a` as they have aged (R9, R11). -/
theorem sampleExpiry_eq (c : SensingSettings) (time : Nat) (x : Sensing) :
    sampleExpiry c time x =
      (let a := ageReading x
       let t := sampleTries c a
       let n := sampleFormed c a
       let held := min 65535 (a.heldSeconds + 1)
       { a with
        lastAccepted := newAccepted t a.lastAccepted
        floatFilter := if c.primary = .float then t.first.filter else t.second.filter
        pressFilter := if c.primary = .float then t.second.filter else t.first.filter
        sensorState := if n.source = .held then heldSensorState a.sensorState (decide (c.holdLimitS ≤ (held : Int))) else .ok
        heldSeconds := if n.source = .held then held else 0
        disagree := (sampleCheck c a).disagree
        disagreeCount := (sampleCheck c a).disagreeCount
        agreeCount := (sampleCheck c a).agreeCount
        record := ⟨n, time⟩ }) := by
  unfold sampleExpiry sampleFormed
  generalize ageReading x = a
  obtain ⟨b, n1, n2, checked⟩ : ∃ b n1 n2, sampleCheck c a = { a with disagree := b, disagreeCount := n1, agreeCount := n2 } :=
    ⟨_, _, _, checkDisagree_frame ..⟩
  unfold sampleCheck at checked
  unfold sampleCheck sampleTries
  dsimp only
  rw [checked]
  cases c.primary <;> simp only [updateSensor_eq, decide_eq_true_eq] <;> rfl

section Fields

variable (c : SensingSettings) (time : Nat) (x : Sensing)

theorem ageReading_lastAccepted : (ageReading x).lastAccepted = x.lastAccepted := by rw [ageReading_eq]

theorem sampleExpiry_disagree : (sampleExpiry c time x).disagree = (sampleCheck c (ageReading x)).disagree := by
  rw [sampleExpiry_eq]

theorem sampleExpiry_sample : (sampleExpiry c time x).record.sample =
    formSample c.primary (sampleTries c (ageReading x)) x.lastAccepted (sampleExpiry c time x).disagree := by
  rw [sampleExpiry_disagree, sampleExpiry_eq, ← ageReading_lastAccepted]
  rfl

theorem sampleExpiry_lastAccepted :
    (sampleExpiry c time x).lastAccepted = newAccepted (sampleTries c (ageReading x)) x.lastAccepted := by
  rw [sampleExpiry_eq, ← ageReading_lastAccepted x]

/-- A sample is accepted and becomes the last accepted stage, or is held and repeats it (R12, R14). -/
theorem sampleExpiry_sample_cases :
    ((sampleExpiry c time x).record.sample.source ≠ .held ∧ ∃ m r,
      (sampleExpiry c time x).record.sample.value = some m.mm ∧
      (sampleExpiry c time x).record.sample.marks = ⟨r, m.clamped, (sampleExpiry c time x).disagree⟩ ∧
      (sampleExpiry c time x).lastAccepted = some m) ∨
    (sampleExpiry c time x).record.sample =
        ⟨x.lastAccepted.map Marked.mm, .held, ⟨false, x.lastAccepted.any Marked.clamped, (sampleExpiry c time x).disagree⟩⟩ ∧
      (sampleExpiry c time x).lastAccepted = x.lastAccepted := by
  rw [sampleExpiry_sample, sampleExpiry_lastAccepted]
  obtain ⟨m, r, source, value, marks, last⟩ | held := formSample_cases c.primary (sampleTries c (ageReading x)) x.lastAccepted
    (sampleExpiry c time x).disagree
  · exact .inl ⟨source, m, r, value, marks, last⟩
  · exact .inr held

/-- The sensor state and the held-second count by the source of the sample (R15). -/
theorem sampleExpiry_sensor :
    (sampleExpiry c time x).sensorState = (if (sampleExpiry c time x).record.sample.source = .held
      then heldSensorState x.sensorState (decide (c.holdLimitS ≤ ((min 65535 (x.heldSeconds + 1) : Nat) : Int))) else .ok) ∧
    (sampleExpiry c time x).heldSeconds =
      if (sampleExpiry c time x).record.sample.source = .held then min 65535 (x.heldSeconds + 1) else 0 := by
  have state : (ageReading x).sensorState = x.sensorState := by rw [ageReading_eq]
  have seconds : (ageReading x).heldSeconds = x.heldSeconds := by rw [ageReading_eq]
  rw [sampleExpiry_eq, ← state, ← seconds]
  exact ⟨rfl, rfl⟩

theorem sampleExpiry_frame :
    (sampleExpiry c time x).record.time = time ∧ (sampleExpiry c time x).float = x.float ∧
    (sampleExpiry c time x).receiver = x.receiver ∧ (sampleExpiry c time x).reading = x.reading ∧
    (sampleExpiry c time x).garbled = x.garbled ∧
    (sampleExpiry c time x).readingAge = if x.reading = none then x.readingAge else min 65535 (x.readingAge + 1) := by
  rw [sampleExpiry_eq, ageReading_eq]
  exact ⟨rfl, rfl, rfl, rfl, rfl, rfl⟩

/-- The counts after the check of the stages both gauges offer (R16). -/
theorem sampleExpiry_counts {f p : Option Marked} (hf : floatOffer c (ageReading x) = f) (hp : pressOffer c (ageReading x) = p) :
    (sampleExpiry c time x).disagree = (checkDisagree c.agreeMm f p (ageReading x)).disagree ∧
    (sampleExpiry c time x).disagreeCount = (checkDisagree c.agreeMm f p (ageReading x)).disagreeCount ∧
    (sampleExpiry c time x).agreeCount = (checkDisagree c.agreeMm f p (ageReading x)).agreeCount := by
  subst hf hp
  rw [sampleExpiry_eq]
  exact ⟨rfl, rfl, rfl⟩

/-- The float first: its filter is that of the first try (R11). -/
theorem sampleExpiry_tries_float (primary : c.primary = .float) :
    sampleTries c (ageReading x) = tryBoth c.stepMm x.lastAccepted x.floatFilter x.pressFilter
      (floatOffer c (ageReading x)) (pressOffer c (ageReading x)) ∧
    (sampleExpiry c time x).floatFilter = (sampleTries c (ageReading x)).first.filter ∧
    (sampleExpiry c time x).pressFilter = (sampleTries c (ageReading x)).second.filter := by
  refine ⟨?_, ?_, ?_⟩
  · rw [sampleTries, primary, ageReading_eq]
  · rw [sampleExpiry_eq]
    exact if_pos primary
  · rw [sampleExpiry_eq]
    exact if_pos primary

/-- The pressure gauge first: its filter is that of the first try (R11). -/
theorem sampleExpiry_tries_press (primary : c.primary = .press) :
    sampleTries c (ageReading x) = tryBoth c.stepMm x.lastAccepted x.pressFilter x.floatFilter
      (pressOffer c (ageReading x)) (floatOffer c (ageReading x)) ∧
    (sampleExpiry c time x).pressFilter = (sampleTries c (ageReading x)).first.filter ∧
    (sampleExpiry c time x).floatFilter = (sampleTries c (ageReading x)).second.filter := by
  have other : c.primary ≠ .float := by rw [primary]; exact nofun
  refine ⟨?_, ?_, ?_⟩
  · rw [sampleTries, primary, ageReading_eq]
  · rw [sampleExpiry_eq]
    exact if_neg other
  · rw [sampleExpiry_eq]
    exact if_neg other

end Fields

/-- The stage the pressure gauge offers: none when its reading is absent or stale (R9, R10). -/
theorem pressOffer_eq (c : SensingSettings) (x : Sensing) :
    pressOffer c x = (if (x.readingAge : Int) ≤ c.staleS then x.reading else none).map (pressStage c) := by
  unfold pressOffer
  cases x.reading <;> split <;> simp_all

/-! ### What the tries leave -/

/-- What the tries leave: the sample, the last accepted stage and both filters (R12, R13, R14). -/
theorem tries_outcome (primary : Gauge) (stepMm : Int) (last : Option Marked) (g1 g2 : GaugeFilter) (o1 o2 : Option Marked)
    (disagree : Bool) :
    let t := tryBoth stepMm last g1 g2 o1 o2
    let n := formSample primary t last disagree
    let sample := fun (src : SampleSource) (g : GaugeFilter) (m : Marked) =>
      (⟨some m.mm, src, ⟨g.reseat || outsideStep stepMm last m, m.clamped, disagree⟩⟩ : Sample)
    (∀ m : Marked, o1 = some m → Accepts stepMm last g1 m →
      n = sample (sourceOf primary) g1 m ∧ newAccepted t last = some m ∧ t.first.filter = ⟨0, false⟩ ∧
        t.second.filter = { g2 with rejects := 0 }) ∧
    (o1 = none ∨ (∃ m, o1 = some m ∧ ¬ Accepts stepMm last g1 m) →
      t.first.filter = (if o1 = none then { g1 with rejects := 0 } else ⟨g1.rejects + 1, false⟩) ∧
      (∀ m : Marked, o2 = some m → Accepts stepMm last g2 m →
        n = sample (sourceOf (otherGauge primary)) g2 m ∧ newAccepted t last = some m ∧ t.second.filter = ⟨0, false⟩) ∧
      (∀ m : Marked, o2 = some m → ¬ Accepts stepMm last g2 m →
        n.source = .held ∧ t.second.filter = ⟨g2.rejects + 1, false⟩) ∧
      (o2 = none → n.source = .held ∧ t.second.filter = { g2 with rejects := 0 })) := by
  intro t n sample
  have held : t.first.accepted = none → t.second.accepted = none → n.source = .held := by
    intro h1 h2
    simp only [n, formSample, h1, h2]
    cases last <;> rfl
  refine ⟨?_, fun first => ?_⟩
  · rintro m rfl accepts
    have tried : t = _ := tryBoth_first accepts g2 o2
    simp [n, sample, formSample, newAccepted, tried, acceptCandidate]
  · have tried : t = _ := tryBoth_second first g2 o2
    refine ⟨by rw [tried], ?_, ?_, ?_⟩
    · rintro m rfl accepts
      have second : t.second = acceptCandidate m (g2.reseat || outsideStep stepMm last m) := by
        rw [tried]
        exact stepFilter_accepted accepts
      have first : t.first.accepted = none := by rw [tried]
      simp [n, sample, formSample, newAccepted, first, second, acceptCandidate]
    · rintro m rfl rejects
      have second : t.second = ⟨none, ⟨g2.rejects + 1, false⟩⟩ := by rw [tried]; exact stepFilter_rejected rejects
      exact ⟨held (by rw [tried]) (by rw [second]), by rw [second]⟩
    · rintro rfl
      have second : t.second = ⟨none, { g2 with rejects := 0 }⟩ := by rw [tried]; rfl
      exact ⟨held (by rw [tried]) (by rw [second]), by rw [second]⟩

/-- Settles O14: the sample by its two cases, the counts by the check of both offers, the gauges by the tries in their order. -/
theorem sampleOutcome : Obligations.SampleOutcome := by
  refine ⟨fun c time x => ?_, fun c time x => ?_⟩
  · intro y n
    obtain ⟨record_time, float, receiver, reading, garbled, age⟩ := sampleExpiry_frame c time x
    obtain ⟨state, seconds⟩ : y.sensorState = _ ∧ y.heldSeconds = _ := sampleExpiry_sensor c time x
    obtain ⟨source, m, r, value, marks, last⟩ | ⟨held, last⟩ := sampleExpiry_sample_cases c time x
    · refine ⟨⟨record_time, float, receiver, reading, garbled, age, congrArg SampleMarks.disagree marks⟩, fun _ => ?_,
        fun h => absurd h source⟩
      rw [state, seconds, if_neg source, if_neg source]
      exact ⟨rfl, rfl, by simp [n, y, value], by simp [n, y, value, last]⟩
    · have source : n.source = .held := congrArg Sample.source held
      refine ⟨⟨record_time, float, receiver, reading, garbled, age, congrArg (fun z => z.marks.disagree) held⟩,
        fun h => absurd source h, fun _ => ?_⟩
      rw [state, seconds, if_pos source, if_pos source]
      refine ⟨congrArg Sample.value held, last, congrArg Sample.marks held, rfl, ?_⟩
      cases x.sensorState <;> simp [heldSensorState]
  · intro y n stage float press
    obtain ⟨-, -, -, -, -, age⟩ := sampleExpiry_frame c time x
    have float_eq : floatOffer c (ageReading x) = float := by
      rw [ageReading_eq]
      rfl
    have press_eq : pressOffer c (ageReading x) = press := by
      rw [pressOffer_eq, ageReading_eq]
      simp only [press, y, age]
      rfl
    obtain ⟨disagree, disagreeCount, agreeCount⟩ := sampleExpiry_counts c time x float_eq press_eq
    refine ⟨fun unusable => ?_, fun f p hf hp => ⟨fun apart => ?_, fun near => ?_⟩, ?_⟩
    · rw [disagree, disagreeCount, agreeCount, checkDisagree_of_none _ unusable, ageReading_eq]
      exact ⟨rfl, rfl, rfl⟩
    · rw [disagree, disagreeCount, agreeCount, hf, hp, checkDisagree_apart apart, ageReading_eq]
      refine ⟨fun ⟨off, late⟩ => ?_, fun early => ?_⟩
      · rw [if_pos ⟨late, off⟩]
        exact ⟨rfl, rfl, rfl⟩
      · rw [if_neg fun ⟨late, off⟩ => early.elim (fun on => nomatch on.symm.trans off) (not_lt.2 late)]
        exact ⟨rfl, rfl, rfl⟩
    · rw [disagree, disagreeCount, agreeCount, hf, hp, checkDisagree_close near, ageReading_eq]
      refine ⟨fun ⟨on, late⟩ => ?_, fun early => ?_⟩
      · rw [if_pos ⟨late, on⟩]
        exact ⟨rfl, rfl, rfl⟩
      · rw [if_neg fun ⟨late, on⟩ => early.elim (fun off => nomatch off.symm.trans on) (not_lt.2 late)]
        exact ⟨rfl, rfl, rfl⟩
    · rintro o1 o2 g1 g2 h1 h2 s1 s2 order outside accepts sample
      have n_eq : n = _ := sampleExpiry_sample c time x
      have last : y.lastAccepted = _ := sampleExpiry_lastAccepted c time x
      rw [n_eq, last]
      obtain ⟨primary, rfl, rfl, rfl, rfl, rfl, rfl, rfl, rfl⟩ | ⟨primary, rfl, rfl, rfl, rfl, rfl, rfl, rfl, rfl⟩ := order
      · obtain ⟨tries, first, second⟩ := sampleExpiry_tries_float c time x primary
        rw [first, second, tries, primary, float_eq, press_eq]
        exact tries_outcome .float ..
      · obtain ⟨tries, first, second⟩ := sampleExpiry_tries_press c time x primary
        rw [first, second, tries, primary, float_eq, press_eq]
        exact tries_outcome .press ..

end Sys2Proof.Machine
end

section
/-! The pressure line (O25): what a character does by the receiver mode, and which lines give a reading. -/
namespace Sys2Proof.Machine

/-! ### Characters -/

/-- While the line has not returned high after a BREAK no character is taken (R4). -/
theorem characterArrival_held {x : Sensing} (h : x.receiver.breakHold = true) (data : Byte) (stopHigh : Bool) :
    characterArrival data stopHigh x = x := if_pos h

theorem characterArrival_taken {x : Sensing} (h : x.receiver.breakHold = false) (data : Byte) (stopHigh : Bool) :
    characterArrival data stopHigh x =
      (let t := bufferChar ⟨data, charMark data stopHigh⟩ x
       { t with receiver := { t.receiver with breakHold := decide (charMark data stopHigh = .break) } }) :=
  if_neg (by simp [h])

/-- A character that ends no line is buffered, drops the line, or is dropped with it (R5). -/
theorem bufferChar_inner {c : LineChar} (h : ¬ (c.data = 0x0D ∧ c.mark = .none)) (x : Sensing) :
    (x.receiver.mode = .collecting → x.receiver.buffer.length < 16 →
      bufferChar c x = { x with receiver := ⟨.collecting, x.receiver.buffer ++ [c], x.receiver.breakHold⟩ }) ∧
    (x.receiver.mode = .collecting → 16 ≤ x.receiver.buffer.length →
      bufferChar c x = { x with receiver := ⟨.dropping, [], x.receiver.breakHold⟩, garbled := true }) ∧
    (x.receiver.mode = .dropping → bufferChar c x = x) := by
  unfold bufferChar Config.lineSize
  refine ⟨fun m l => ?_, fun m l => ?_, fun m => ?_⟩
  · simp only [if_neg h, m, if_pos l]
  · simp only [if_neg h, m, if_neg (not_lt.2 l)]
  · simp only [if_neg h, m]

/-- A carriage return ends the dropping of a line, or a line, which is parsed where it is not empty (R5, R7). -/
theorem bufferChar_end {c : LineChar} (h : c.data = 0x0D ∧ c.mark = .none) (x : Sensing) :
    (x.receiver.mode = .dropping →
      bufferChar c x = { x with receiver := ⟨.collecting, x.receiver.buffer, x.receiver.breakHold⟩ }) ∧
    (x.receiver.mode = .collecting → x.receiver.buffer = [] → bufferChar c x = x) ∧
    (x.receiver.mode = .collecting → x.receiver.buffer ≠ [] → ∀ reading, parseLine x.receiver.buffer = some reading →
      bufferChar c x = { x with
        receiver := ⟨.collecting, [], x.receiver.breakHold⟩, reading := some reading, readingAge := 0, garbled := false }) ∧
    (x.receiver.mode = .collecting → x.receiver.buffer ≠ [] → parseLine x.receiver.buffer = none →
      bufferChar c x = { x with receiver := ⟨.collecting, [], x.receiver.breakHold⟩, garbled := true }) := by
  unfold bufferChar endLine
  refine ⟨fun m => ?_, fun m e => ?_, fun m e reading parsed => ?_, fun m e parsed => ?_⟩
  · simp only [if_pos h, m]
  · simp only [if_pos h, m, if_pos e]
  · simp only [if_pos h, m, if_neg e, parsed]
  · simp only [if_pos h, m, if_neg e, parsed]

theorem idleGap_eq (x : Sensing) :
    idleGap x = if x.receiver.mode = .dropping then { x with receiver := { x.receiver with mode := .collecting } }
      else if x.receiver.buffer = [] then x else { x with receiver := { x.receiver with buffer := [] }, garbled := true } := by
  unfold idleGap
  cases x.receiver.mode <;> rfl

/-! ### Digits -/

/-- The character of a digit (R7, log 13). -/
def digitChar (d : Fin 10) : Byte := BitVec.ofNat 8 (0x30 + d.val)

theorem digitValue_digitChar (d : Fin 10) : digitValue (digitChar d) = some d.val := by
  revert d
  decide

theorem digitChar_ne_stop (d : Fin 10) : digitChar d ≠ 0x2E := by
  revert d
  decide

theorem digitChar_ne_minus (d : Fin 10) : digitChar d ≠ 0x2D := by
  revert d
  decide

/-- A character with the value of a digit is that digit. -/
theorem digitValue_eq_some {b : Byte} {v : Nat} (h : digitValue b = some v) : ∃ d : Fin 10, b = digitChar d ∧ v = d.val := by
  unfold digitValue at h
  split at h
  · rename_i range
    cases h
    refine ⟨⟨b.toNat - 0x30, by omega⟩, BitVec.eq_of_toNat_eq ?_, rfl⟩
    have := b.isLt
    simp only [digitChar, BitVec.toNat_ofNat]
    omega
  · cases h

theorem digitsOnto_digits (v : Nat) (ds : List (Fin 10)) :
    digitsOnto v (ds.map digitChar) = some (ds.foldl (fun v d => 10 * v + d.val) v) := by
  induction ds generalizing v with
  | nil => rfl
  | cons d ds ih =>
    simp only [List.map_cons, digitsOnto, digitValue_digitChar, List.foldl_cons]
    exact ih _

theorem digitsOnto_eq_some {v w : Nat} {bs : List Byte} (h : digitsOnto v bs = some w) :
    ∃ ds : List (Fin 10), bs = ds.map digitChar := by
  induction bs generalizing v with
  | nil => exact ⟨[], rfl⟩
  | cons b bs ih =>
    simp only [digitsOnto] at h
    split at h
    · rename_i k hk
      obtain ⟨d, rfl, -⟩ := digitValue_eq_some hk
      obtain ⟨ds, rfl⟩ := ih h
      exact ⟨d :: ds, rfl⟩
    · cases h

/-! ### The full stop -/

theorem splitStop_digits (ds : List (Fin 10)) : splitStop (ds.map digitChar) = (ds.map digitChar, none) := by
  induction ds with
  | nil => rfl
  | cons d ds ih => simp only [List.map_cons, splitStop, if_neg (digitChar_ne_stop d), ih]

theorem splitStop_digits_stop (ds : List (Fin 10)) (rest : List Byte) :
    splitStop (ds.map digitChar ++ 0x2E#8 :: rest) = (ds.map digitChar, some rest) := by
  induction ds with
  | nil => rfl
  | cons d ds ih => simp only [List.map_cons, List.cons_append, splitStop, if_neg (digitChar_ne_stop d), ih]

/-- The parts around the first full stop are the whole line. -/
theorem splitStop_join (bs : List Byte) : bs = (splitStop bs).1 ++ ((splitStop bs).2.map (0x2E#8 :: ·)).getD [] := by
  induction bs with
  | nil => rfl
  | cons b bs ih =>
    unfold splitStop
    split
    · rename_i h
      rw [h]
      rfl
    · exact congrArg (b :: ·) ih

/-! ### Readings -/

/-- The tenth of a reading as it stands on the line: a full stop and its digit, or nothing (R7). -/
def tenthChars (tenth : Option (Fin 10)) : List Byte := (tenth.map fun d => [0x2E#8, digitChar d]).getD []

/-- One to six digits, and optionally a full stop and a digit, are a magnitude in tenths (R7). -/
theorem magnitude_digits {ds : List (Fin 10)} (least : 1 ≤ ds.length) (most : ds.length ≤ 6) (tenth : Option (Fin 10)) :
    magnitude (ds.map digitChar ++ tenthChars tenth) =
      some (10 * ds.foldl (fun v d => 10 * v + d.val) 0 + (tenth.map Fin.val).getD 0) := by
  have whole : wholeDigits (ds.map digitChar) = some (ds.foldl (fun v d => 10 * v + d.val) 0) := by
    rw [wholeDigits, if_pos (by simp [least, most]), digitsOnto_digits]
  cases tenth with
  | none => simp [magnitude, tenthChars, splitStop_digits, whole]
  | some d =>
    have parts : splitStop (ds.map digitChar ++ tenthChars (some d)) = (ds.map digitChar, some [digitChar d]) :=
      splitStop_digits_stop ..
    simp [magnitude, parts, whole, digitValue_digitChar]

theorem wholeDigits_eq_some {bs : List Byte} {w : Nat} (h : wholeDigits bs = some w) :
    ∃ ds : List (Fin 10), 1 ≤ ds.length ∧ ds.length ≤ 6 ∧ bs = ds.map digitChar := by
  unfold wholeDigits at h
  split at h
  · rename_i size
    obtain ⟨ds, rfl⟩ := digitsOnto_eq_some h
    rw [List.length_map] at size
    exact ⟨ds, size.1, size.2, rfl⟩
  · cases h

/-- A magnitude is of no other form (R7). -/
theorem magnitude_eq_some {bs : List Byte} {m : Nat} (h : magnitude bs = some m) :
    ∃ (ds : List (Fin 10)) (tenth : Option (Fin 10)), 1 ≤ ds.length ∧ ds.length ≤ 6 ∧
      bs = ds.map digitChar ++ tenthChars tenth := by
  have joined := splitStop_join bs
  unfold magnitude at h
  split at h
  · rename_i w whole after
    obtain ⟨ds, least, most, digits⟩ := wholeDigits_eq_some whole
    rw [digits, after] at joined
    exact ⟨ds, none, least, most, joined⟩
  · rename_i w b whole after
    obtain ⟨ds, least, most, digits⟩ := wholeDigits_eq_some whole
    obtain ⟨k, value, -⟩ := Option.map_eq_some_iff.1 h
    obtain ⟨d, rfl, -⟩ := digitValue_eq_some value
    rw [digits, after] at joined
    exact ⟨ds, some d, least, most, joined⟩
  · cases h

/-- The characters of a line of R7's form. -/
def lineChars (minus : Bool) (ds : List (Fin 10)) (tenth : Option (Fin 10)) : List Byte :=
  (if minus then [0x2D#8] else []) ++ ds.map digitChar ++ tenthChars tenth

theorem readingOf_minus (rest : List Byte) : readingOf (0x2D#8 :: rest) = (magnitude rest).map fun m : Nat => -(m : Int) := by
  simp [readingOf]

theorem readingOf_unsigned (d : Fin 10) (rest : List Byte) :
    readingOf (digitChar d :: rest) = (magnitude (digitChar d :: rest)).map fun m : Nat => (m : Int) :=
  if_neg (digitChar_ne_minus d)

/-- A line of R7's form gives its reading in tenths. -/
theorem readingOf_lineChars (minus : Bool) {ds : List (Fin 10)} (least : 1 ≤ ds.length) (most : ds.length ≤ 6)
    (tenth : Option (Fin 10)) :
    readingOf (lineChars minus ds tenth) =
      (let size : Nat := 10 * ds.foldl (fun v d => 10 * v + d.val) 0 + (tenth.map Fin.val).getD 0
       some (if minus then -(size : Int) else size)) := by
  cases minus with
  | true =>
    refine (readingOf_minus (ds.map digitChar ++ tenthChars tenth)).trans ?_
    rw [magnitude_digits least most]
    rfl
  | false =>
    obtain ⟨d, rest, rfl⟩ := List.exists_cons_of_length_pos least
    refine (readingOf_unsigned d (rest.map digitChar ++ tenthChars tenth)).trans ?_
    exact congrArg (Option.map fun m : Nat => (m : Int)) (magnitude_digits least most tenth)

/-- A reading comes from no other characters (R7). -/
theorem readingOf_eq_some {bs : List Byte} {reading : Int} (h : readingOf bs = some reading) :
    ∃ (minus : Bool) (ds : List (Fin 10)) (tenth : Option (Fin 10)), 1 ≤ ds.length ∧ ds.length ≤ 6 ∧
      bs = lineChars minus ds tenth := by
  unfold readingOf at h
  split at h
  · cases h
  · rename_i b rest
    split at h
    · rename_i minus
      obtain ⟨m, hm, -⟩ := Option.map_eq_some_iff.1 h
      obtain ⟨ds, tenth, least, most, e⟩ := magnitude_eq_some hm
      exact ⟨true, ds, tenth, least, most, by rw [minus, e]; rfl⟩
    · obtain ⟨m, hm, -⟩ := Option.map_eq_some_iff.1 h
      obtain ⟨ds, tenth, least, most, e⟩ := magnitude_eq_some hm
      exact ⟨false, ds, tenth, least, most, e⟩

/-! ### Lines -/

theorem parseLine_unmarked (bs : List Byte) : parseLine (bs.map fun b => ⟨b, .none⟩) = readingOf bs := by
  simp [parseLine, Function.comp_def]

theorem parseLine_marked {line : List LineChar} {c : LineChar} (hc : c ∈ line) (h : c.mark ≠ .none) : parseLine line = none := by
  refine if_neg fun all => ?_
  exact h (by simpa using List.all_eq_true.1 all c hc)

theorem parseLine_eq_some {line : List LineChar} {reading : Int} (h : parseLine line = some reading) :
    readingOf (line.map LineChar.data) = some reading ∧ line = (line.map LineChar.data).map fun b => ⟨b, .none⟩ := by
  unfold parseLine at h
  split at h
  · rename_i all
    refine ⟨h, ?_⟩
    rw [List.map_map]
    refine ((List.map_congr_left (g := id) fun c hc => ?_).trans (List.map_id _)).symm
    have unmarked : c.mark = .none := by simpa using List.all_eq_true.1 all c hc
    exact congrArg (LineChar.mk c.data) unmarked.symm
  · cases h

/-- More than six digits are no magnitude (R7). -/
theorem readingOf_long {ds : List (Fin 10)} (h : 6 < ds.length) : readingOf (ds.map digitChar) = none := by
  obtain ⟨d, rest, rfl⟩ := List.exists_cons_of_length_pos (Nat.zero_lt_of_lt h)
  have whole : wholeDigits ((d :: rest).map digitChar) = none := if_neg (by rw [List.length_map]; omega)
  have none : magnitude ((d :: rest).map digitChar) = none := by
    rw [magnitude, splitStop_digits, whole]
  exact (readingOf_unsigned d (rest.map digitChar)).trans (congrArg _ none)

/-! ### The obligation -/

/-- Settles O25: the receiver by its six cases, the readings by the form of R7 read both ways. -/
theorem pressureLine : Obligations.PressureLine := by
  refine ⟨fun s powered => ?_, ?_, ?_, ?_, ?_⟩
  · intro x r
    refine ⟨?_, (event_of_powered powered _).trans (congrArg _ ?_), event_of_powered powered _⟩
    · intro data stopHigh mark isBreak ends becomes
      have becomes_of : ∀ y, characterArrival data stopHigh x = y → becomes y := by
        rintro y rfl
        exact event_of_powered powered _
      have taken : r.breakHold = false → characterArrival data stopHigh x =
          { bufferChar ⟨data, mark⟩ x with receiver := { (bufferChar ⟨data, mark⟩ x).receiver with breakHold := isBreak } } :=
        fun h => characterArrival_taken h ..
      have no_break : ends = true → isBreak = false := fun h => by simp [isBreak, (of_decide_eq_true h).2]
      have inner : ends = false → _ := fun h => bufferChar_inner (c := ⟨data, mark⟩) (of_decide_eq_false h) x
      have ending : ends = true → _ := fun h => bufferChar_end (c := ⟨data, mark⟩) (of_decide_eq_true h) x
      refine ⟨fun held => ?_, fun ready mode h room => ?_, fun ready mode h full => ?_, fun ready mode h => ?_,
        fun ready mode h => ?_, fun ready mode h empty => ?_, fun ready mode h filled reading parsed => ?_,
        fun ready mode h filled garbled => ?_⟩ <;> apply becomes_of
      · exact characterArrival_held held ..
      · obtain ⟨buffered, -, -⟩ := inner h
        rw [taken ready, buffered mode room]
      · obtain ⟨-, dropped, -⟩ := inner h
        rw [taken ready, dropped mode full]
      · obtain ⟨-, -, same⟩ := inner h
        rw [taken ready, same mode]
      · obtain ⟨resumed, -, -, -⟩ := ending h
        rw [taken ready, resumed mode, no_break h]
      · obtain ⟨-, same, -, -⟩ := ending h
        rw [taken ready, same mode empty, no_break h]
        exact congrArg (fun b => { x with receiver := { x.receiver with breakHold := b } }) ready.symm
      · obtain ⟨-, -, read, -⟩ := ending h
        rw [taken ready, read mode filled reading parsed, no_break h]
      · obtain ⟨-, -, -, lost⟩ := ending h
        rw [taken ready, lost mode filled garbled, no_break h]
    · rw [idleGap_eq]
  · intro minus digits tenth least most char whole size line
    refine (parseLine_unmarked (lineChars minus digits tenth)).trans ((readingOf_lineChars minus least most tenth).trans ?_)
    have size_eq : size = ((10 * whole + (tenth.map Fin.val).getD 0 : Nat) : Int) := by
      cases tenth <;> simp [size]
    rw [size_eq]
  · intro line reading h
    obtain ⟨read, unmarked⟩ := parseLine_eq_some h
    obtain ⟨minus, ds, tenth, least, most, chars⟩ := readingOf_eq_some read
    exact ⟨minus, ds, tenth, least, most, by rw [unmarked, chars]; rfl⟩
  · exact fun line c hc h => parseLine_marked hc h
  · intro ds long
    have read := parseLine_unmarked (ds.map digitChar)
    rw [readingOf_long long, List.map_map] at read
    exact read

end Sys2Proof.Machine
end

section
/-! The write of a log entry (O16). A write moves the three cursors one by one; the closed form gives, as functions of the log unit
before it, what each port loses, where its cursor goes, and what the memory holds. -/
namespace Sys2Proof.Machine

/-! ### One value for each port -/

/-- The table of a function of the port. -/
def perPort {α : Type} (f : Port → α) : PerPort α := ⟨f .a, f .b, f .c⟩

@[simp] theorem get_perPort {α : Type} (f : Port → α) (p : Port) : (perPort f).get p = f p := by cases p <;> rfl

@[simp] theorem perPort_get {α : Type} (t : PerPort α) : perPort t.get = t := rfl

/-! ### A loss of entries at a port -/

/-- A cursor moved to a number, past unread entries that are lost (R36, R37). -/
def Cursor.moved (c : Cursor) (skipped seq : Nat) : Cursor :=
  ⟨seq, if skipped = 0 then c.gap else raiseTo 65535 c.gap skipped⟩

/-- A port told by LOG_GAP of entries lost; where none is lost it is told nothing (R36, R37). -/
def PortState.toldLoss (q : PortState) (mask : BitVec 18) (time skipped : Nat) (c : Cursor) : PortState :=
  if skipped = 0 then q else q.received mask (gapNotice time skipped c.seq c.gap)

/-- A loss of entries at one port: its cursor moves and the port is told. -/
def State.moveCursor (s : State) (p : Port) (skipped seq : Nat) : State :=
  let c := (s.log.cursors.get p).moved skipped seq
  { s with
    log := s.log.setCursor p c
    ports := s.ports.set p ((s.port p).toldLoss (s.cfg.masks.get p) s.clock.time skipped c) }

@[simp] theorem Cursor.moved_self (c : Cursor) : c.moved 0 c.seq = c := rfl

@[simp] theorem PortState.toldLoss_zero (q : PortState) (mask : BitVec 18) (time : Nat) (c : Cursor) :
    q.toldLoss mask time 0 c = q := rfl

/-- A posting to one port is received by that port alone (R183). -/
theorem State.postTo_eq (s : State) (p : Port) (n : Notice) :
    s.postTo p n = s.setPort p ((s.port p).received (s.cfg.masks.get p) n) := by
  unfold State.postTo PortState.received
  split
  · rfl
  · exact congrArg (fun q => { s with ports := q }) (PerPort.set_get ..).symm

theorem State.skipEntries_eq (s : State) (p : Port) {skipped : Nat} (h : 0 < skipped) (cursor : Nat) :
    s.skipEntries p skipped cursor = s.moveCursor p skipped cursor := by
  simp only [State.skipEntries, State.moveCursor, State.postTo_eq, Cursor.moved, PortState.toldLoss, if_neg h.ne']
  rfl

/-- Where nothing is lost the cursor moves and the port is told nothing. -/
theorem State.moveCursor_zero (s : State) (p : Port) (seq : Nat) :
    s.moveCursor p 0 seq = { s with log := s.log.setCursor p ⟨seq, (s.log.cursors.get p).gap⟩ } :=
  congrArg (fun q => { s with log := s.log.setCursor p ⟨seq, (s.log.cursors.get p).gap⟩, ports := q }) (PerPort.set_get ..)

theorem State.wrapCursor_eq (s : State) (p : Port) : s.wrapCursor p = s.moveCursor p (s.log.unread p) 1 := by
  unfold State.wrapCursor
  split
  · exact s.skipEntries_eq p ‹_› 1
  · rename_i none_unread
    rw [Nat.eq_zero_of_not_pos none_unread, State.moveCursor_zero]

theorem State.pushCursor_eq (s : State) (removed : Nat) (p : Port) :
    s.pushCursor removed p =
      (let k := if (s.log.cursors.get p).seq = removed then 1 else 0
       s.moveCursor p k ((s.log.cursors.get p).seq + k)) := by
  unfold State.pushCursor
  split
  · rename_i at_removed
    rw [s.skipEntries_eq p Nat.one_pos, at_removed]
  · refine .trans ?_ (s.moveCursor_zero p (s.log.cursors.get p).seq).symm
    exact congrArg (fun c => { s with log := { s.log with cursors := c } }) (PerPort.set_get ..).symm

/-! ### The log unit after a write -/

/-- The unread entries that the next write takes from a port (R36, R37). -/
def LogUnit.skipped (l : LogUnit) (p : Port) : Nat :=
  if l.nextSeq = two32 then l.unread p
  else if Config.logSize ≤ l.entries.length ∧ (l.cursors.get p).seq = l.oldest then 1 else 0

/-- The cursor and gap total of a port after the next write (R36, R37). -/
def LogUnit.cursorAfter (l : LogUnit) (p : Port) : Cursor :=
  (l.cursors.get p).moved (l.skipped p) (if l.nextSeq = two32 then 1 else (l.cursors.get p).seq + l.skipped p)

/-- The entries that the next write keeps (R36). -/
def LogUnit.kept (l : LogUnit) : List LogEntry :=
  if l.nextSeq = two32 then [] else if Config.logSize ≤ l.entries.length then l.entries.tail else l.entries

/-- The sequence number of the next write: after entry 4,294,967,295 comes 1 (R36). -/
def LogUnit.writeSeq (l : LogUnit) : Nat := if l.nextSeq = two32 then 1 else l.nextSeq

/-- The log unit after a write (R36, R37). -/
def LogUnit.written (l : LogUnit) (level : Level) : LogUnit :=
  { l with
    entries := l.kept ++ [logEntryOf l.entry l.writeSeq l.timeStep level]
    nextSeq := l.writeSeq + 1
    cursors := perPort l.cursorAfter
    timeStep := false }

/-- The ports after a write, each told of what it lost (R36, R37). -/
def State.toldPorts (s : State) : PerPort PortState :=
  perPort fun p => (s.port p).toldLoss (s.cfg.masks.get p) s.clock.time (s.log.skipped p) (s.log.cursorAfter p)

/-- The clear of the log: the ports are treated one after another, and none looks at another's cursor. -/
theorem State.wrapLog_of_last {s : State} (h : s.log.nextSeq = two32) :
    s.wrapLog = { s with
      log := { s.log with entries := [], nextSeq := 1, cursors := perPort s.log.cursorAfter }, ports := s.toldPorts } := by
  have skipped : s.log.skipped = s.log.unread := funext fun p => if_pos h
  have after : s.log.cursorAfter = fun p => (s.log.cursors.get p).moved (s.log.unread p) 1 := by
    funext p
    rw [LogUnit.cursorAfter, skipped, if_pos h]
  simp only [State.wrapLog, if_pos h, State.wrapCursor_eq, State.toldPorts, skipped, after]
  rfl

theorem State.wrapLog_of_room {s : State} (h : s.log.nextSeq ≠ two32) : s.wrapLog = s := if_neg h

section Room

variable {l : LogUnit} (go : l.nextSeq ≠ two32)

include go

theorem LogUnit.cursorAfter_of_none {p : Port} (h : l.skipped p = 0) : l.cursorAfter p = l.cursors.get p := by
  rw [LogUnit.cursorAfter, if_neg go, h, Nat.add_zero, Cursor.moved_self]

/-- A memory with room loses nothing at any port. -/
theorem LogUnit.skipped_of_room (room : ¬ Config.logSize ≤ l.entries.length) (p : Port) : l.skipped p = 0 := by
  simp [LogUnit.skipped, go, room]

theorem LogUnit.cursorsAfter_of_room (room : ¬ Config.logSize ≤ l.entries.length) : perPort l.cursorAfter = l.cursors :=
  congrArg perPort (funext fun p => LogUnit.cursorAfter_of_none go (LogUnit.skipped_of_room go room p))

end Room

theorem State.toldPorts_of_none {s : State} {p : Port} (h : s.log.skipped p = 0) : s.toldPorts.get p = s.port p := by
  rw [State.toldPorts, get_perPort, h, PortState.toldLoss_zero]

theorem State.toldPorts_of_room {s : State} (h : ∀ p, s.log.skipped p = 0) : s.toldPorts = s.ports :=
  (perPort_get s.toldPorts).symm.trans (congrArg perPort (funext fun p => State.toldPorts_of_none (h p)))

/-- The removal of the oldest entry, where the numbers go on: again no port looks at another's cursor. -/
theorem State.dropOldest_eq {s : State} (h : s.log.nextSeq ≠ two32) :
    s.dropOldest = { s with
      log := { s.log with entries := s.log.kept, cursors := perPort s.log.cursorAfter }, ports := s.toldPorts } := by
  by_cases full : Config.logSize ≤ s.log.entries.length
  · obtain ⟨e, rest, entries⟩ := List.exists_cons_of_length_pos (Nat.lt_of_lt_of_le (by decide) full)
    have skipped : s.log.skipped = fun p => if (s.log.cursors.get p).seq = e.seq then 1 else 0 := by
      funext p
      simp only [LogUnit.skipped, if_neg h, full, true_and]
      rw [LogUnit.oldest, entries]
    have after : s.log.cursorAfter = fun p =>
        (s.log.cursors.get p).moved (s.log.skipped p) ((s.log.cursors.get p).seq + s.log.skipped p) :=
      funext fun p => by rw [LogUnit.cursorAfter, if_neg h]
    have kept : s.log.kept = rest := by rw [LogUnit.kept, if_neg h, if_pos full, entries, List.tail_cons]
    simp only [State.dropOldest, entries, State.pushCursor_eq, State.toldPorts, after, skipped, kept]
    rw [if_pos (entries ▸ full)]
    rfl
  · have stands : s.dropOldest = s := by
      unfold State.dropOldest
      split
      · exact if_neg full
      · rfl
    rw [stands, LogUnit.cursorsAfter_of_room h full, State.toldPorts_of_room (LogUnit.skipped_of_room h full), LogUnit.kept,
      if_neg h, if_neg full]

theorem State.writeEntry_eq (s : State) (level : Level) :
    s.writeEntry level = { s with log := s.log.written level, ports := s.toldPorts } := by
  by_cases last : s.log.nextSeq = two32
  · simp only [State.writeEntry, State.wrapLog_of_last last, LogUnit.written, LogUnit.kept, LogUnit.writeSeq, if_pos last]
    rfl
  · simp only [State.writeEntry, State.wrapLog_of_room last, State.dropOldest_eq last, LogUnit.written, LogUnit.writeSeq,
      if_neg last]

theorem State.closeEntry_of_empty {s : State} (h : s.log.entry.span = 0) (level : Level) : s.closeEntry level = s.beginEntry :=
  if_neg (by simp [h])

theorem State.closeEntry_of_mean {s : State} (h : 0 < s.log.entry.span) (level : Level) :
    s.closeEntry level = { s with
      log := { s.log.written level with entry := emptyEntry s.run.ctx.isSome }, ports := s.toldPorts } := by
  rw [State.closeEntry, if_pos h, State.writeEntry_eq]
  rfl

/-! ### What a write leaves at a port -/

/-- The notices of a port that loses entries: LOG_GAP joins them where its mask admits it (R36, R183). -/
theorem State.toldPorts_queue {s : State} {p : Port} {k seq : Nat} (h : s.log.skipped p = k) (pos : 0 < k)
    (after : s.log.cursorAfter p = ⟨seq, raiseTo 65535 (s.log.cursors.get p).gap k⟩) :
    (s.toldPorts.get p).queue = if admits (s.cfg.masks.get p) .logGap then
      enqueue (s.port p).queue (gapNotice s.clock.time k seq (raiseTo 65535 (s.log.cursors.get p).gap k))
      else (s.port p).queue := by
  rw [State.toldPorts, get_perPort, h, after, PortState.toldLoss, if_neg pos.ne', PortState.received]
  exact apply_ite PortState.queue ..

/-- Settles O16: the closed form of a write, read in each of the three cases of the log memory. -/
theorem logEntryWrite : Obligations.LogEntryWrite := by
  intro s level l t e entryAt fresh
  have of_mean : 0 < l.entry.span → t = { s with
      log := { l with entry := fresh, entries := l.kept ++ [entryAt l.writeSeq], nextSeq := l.writeSeq + 1,
                      cursors := perPort l.cursorAfter, timeStep := false }, ports := s.toldPorts } :=
    fun h => State.closeEntry_of_mean h level
  have of_empty : l.entry.span = 0 → t = { s with log := { l with entry := fresh } } :=
    fun h => State.closeEntry_of_empty h level
  refine ⟨?_, of_empty, fun mean room go => ?_, fun mean go x rest entries full => ?_, fun mean last => ?_⟩
  · obtain empty | mean := Nat.eq_zero_or_pos l.entry.span
    · rw [of_empty empty]
      exact ⟨rfl, rfl, rfl, rfl, rfl, rfl, rfl⟩
    · rw [of_mean mean]
      exact ⟨rfl, rfl, rfl, rfl, rfl, rfl, rfl⟩
  · have go : l.nextSeq ≠ two32 := go.ne
    have not_full : ¬ Config.logSize ≤ l.entries.length := not_le.2 room
    rw [of_mean mean, LogUnit.cursorsAfter_of_room go not_full,
      State.toldPorts_of_room (LogUnit.skipped_of_room (l := s.log) go not_full), LogUnit.kept, LogUnit.writeSeq, if_neg go,
      if_neg not_full, if_neg go]
  · have go : l.nextSeq ≠ two32 := go.ne
    have full : Config.logSize ≤ l.entries.length := full
    have oldest : l.oldest = x.seq := by rw [LogUnit.oldest, entries]
    rw [of_mean mean, LogUnit.kept, LogUnit.writeSeq, if_neg go, if_pos full, if_neg go, entries]
    refine ⟨rfl, rfl, rfl, fun p => ?_⟩
    intro c
    have skipped : l.skipped p = if c.seq = x.seq then 1 else 0 := by
      simp only [LogUnit.skipped, if_neg go, full, true_and, oldest, c]
    split
    · rename_i at_oldest
      rw [if_pos at_oldest] at skipped
      have after : l.cursorAfter p = ⟨x.seq + 1, raiseTo 65535 c.gap 1⟩ := by
        rw [LogUnit.cursorAfter, if_neg go, skipped, ← at_oldest]
        rfl
      exact ⟨(get_perPort ..).trans after, State.toldPorts_queue skipped Nat.one_pos after⟩
    · rename_i elsewhere
      rw [if_neg elsewhere] at skipped
      exact ⟨(get_perPort ..).trans (LogUnit.cursorAfter_of_none go skipped), State.toldPorts_of_none skipped⟩
  · have last : l.nextSeq = two32 := last
    rw [of_mean mean, LogUnit.kept, LogUnit.writeSeq, if_pos last, if_pos last]
    refine ⟨rfl, rfl, rfl, fun p => ?_⟩
    intro c
    have skipped : l.skipped p = two32 - c.seq := by rw [LogUnit.skipped, if_pos last, LogUnit.unread, last]
    have after : l.cursorAfter p = c.moved (two32 - c.seq) 1 := by rw [LogUnit.cursorAfter, if_pos last, skipped]
    split
    · rename_i behind
      have pos : 0 < two32 - c.seq := Nat.sub_pos_of_lt behind
      rw [Cursor.moved, if_neg pos.ne'] at after
      exact ⟨(get_perPort ..).trans after, State.toldPorts_queue skipped pos after⟩
    · rename_i all_read
      have none : two32 - c.seq = 0 := Nat.sub_eq_zero_of_le (not_lt.1 all_read)
      rw [none] at skipped after
      exact ⟨(get_perPort ..).trans after, State.toldPorts_of_none skipped⟩

end Sys2Proof.Machine
end

section
/-! The taking of an action entry (O19). What an entry writes in the warning unit, in the log unit and in the two engines reaches
neither the notices after it nor the retrieve request: beyond those three the part is what the close of the log entry, the notices
and the retrieve request make of it. -/
namespace Sys2Proof.Machine

/-! ### What an action entry writes -/

/-- The state with the warning unit, the log unit and the two engines replaced. -/
def State.refit (s : State) (w : WarningUnit) (l : LogUnit) (siren beacon : OutputState) : State :=
  { s with warning := w, log := l, outputs := { s.outputs with siren := siren, beacon := beacon } }

/-- The state `t` is `s` beyond the warning unit, the log unit and the two engines. -/
def SameBeyond (s t : State) : Prop := t = s.refit t.warning t.log t.outputs.siren t.outputs.beacon

theorem SameBeyond.of_refit {s t : State} {w : WarningUnit} {l : LogUnit} {a b : OutputState} (h : t = s.refit w l a b) :
    SameBeyond s t := by
  subst h
  rfl

theorem SameBeyond.refl (s : State) : SameBeyond s s := rfl

theorem SameBeyond.trans {s t u : State} (h : SameBeyond s t) (k : SameBeyond t u) : SameBeyond s u := by
  unfold SameBeyond at h
  rw [SameBeyond, h] at k
  exact .of_refit k

theorem SameBeyond.parts {s t : State} (h : SameBeyond s t) :
    t.ports = s.ports ∧ t.run = s.run ∧ t.cableway = s.cableway ∧ t.outputs.retrieve = s.outputs.retrieve := by
  rw [h]
  exact ⟨rfl, rfl, rfl, rfl⟩

section Refit

variable (s : State) (w : WarningUnit) (l : LogUnit) (a b : OutputState)

theorem State.postTo_refit (p : Port) (n : Notice) : (s.refit w l a b).postTo p n = (s.postTo p n).refit w l a b := by
  rw [State.postTo_eq, State.postTo_eq]
  rfl

theorem State.postAll_refit (n : Notice) : (s.refit w l a b).postAll n = (s.postAll n).refit w l a b := by
  simp only [State.postAll, State.postTo_refit]

theorem State.postRetrieve_refit (c : RunContext) (time : Nat) (e : Option RunState) :
    (s.refit w l a b).postRetrieve c time e = (s.postRetrieve c time e).refit w l a b := by
  unfold State.postRetrieve
  cases c.holder with
  | some p => exact State.postTo_refit ..
  | none => exact State.postAll_refit ..

/-- A retrieve request asks neither the warning unit, nor the log unit, nor an engine (R155). -/
theorem State.retrieve_refit (time : Nat) : (s.refit w l a b).retrieve time = (s.retrieve time).refit w l a b := by
  unfold State.retrieve
  have run : (s.refit w l a b).run = s.run := rfl
  have cableway : (s.refit w l a b).cableway = s.cableway := rfl
  rw [run, cableway]
  cases s.run.ctx with
  | none => rfl
  | some c =>
    dsimp only
    cases c.phase with
    | opened | finished | retrieving _ => exact State.postRetrieve_refit ..
    | rest r => exact State.postRetrieve_refit (s.enterRetrieving c r) ..
    | exposing v f =>
      cases s.cableway.exposure with
      | none => exact State.postRetrieve_refit (s.enterRetrieving c _) ..
      | some x => exact State.postRetrieve_refit ((s.endExposure _).enterRetrieving c _) ..

end Refit

theorem SameBeyond.setWarning (s : State) (w : WarningUnit) : SameBeyond s (s.setWarning w) := rfl

theorem SameBeyond.postWhen {s t : State} (h : SameBeyond s t) (cond : Bool) (n : Notice) :
    SameBeyond (s.postWhen cond n) (t.postWhen cond n) := by
  cases cond with
  | false => exact h
  | true => exact .of_refit ((congrArg (State.postAll · n) h).trans (State.postAll_refit ..))

theorem SameBeyond.entryRetrieve {s t : State} (h : SameBeyond s t) (asked : Bool) (time : Nat) :
    SameBeyond (s.entryRetrieve asked time) (t.entryRetrieve asked time) := by
  cases asked with
  | false => exact h
  | true => exact .of_refit ((congrArg (State.retrieve · time) h).trans (State.retrieve_refit ..))

/-! ### The steps of an entry -/

theorem SameBeyond.entryLevel (s : State) (next : Option Level) (time : Nat) : SameBeyond s (s.entryLevel next time) := by
  unfold State.entryLevel
  split
  · rfl
  · split <;> rfl

theorem SameBeyond.handField (s : State) (out : Output) (field : Option (Fin 8)) : SameBeyond s (s.handField out field) := by
  cases field with
  | none => rfl
  | some n => cases out <;> rfl

/-- An output after a level field: a level change ends its test (R109). -/
def State.ended (s : State) (l : Level) (o : OutputState) : OutputState :=
  if l = s.warning.level then o else o.endTest s.cfg.patterns

theorem State.entryLevel_outputs (s : State) (next : Option Level) (time : Nat) {l : Level}
    (level : next.getD s.warning.level = l) :
    (s.entryLevel next time).outputs = { s.outputs with
      siren := s.ended l s.outputs.siren, beacon := s.ended l s.outputs.beacon } := by
  unfold State.entryLevel State.ended
  subst level
  cases next with
  | none => simp
  | some l =>
    by_cases same : l = s.warning.level
    · simp [same]
    · simp only [Option.getD_some, if_neg same]
      rfl

/-- The two engines after the pattern fields, each of which KEEP leaves (R86). -/
theorem State.entryPatterns_outputs (s : State) (e : ActionEntry) :
    (s.entryPatterns e).outputs = { s.outputs with
      siren := (e.siren.map (s.outputs.siren.hand s.cfg.patterns)).getD s.outputs.siren
      beacon := (e.beacon.map (s.outputs.beacon.hand s.cfg.patterns)).getD s.outputs.beacon } := by
  unfold State.entryPatterns
  cases e.siren <;> cases e.beacon <;> rfl

theorem State.entryRetrieve_engines (s : State) (asked : Bool) (time : Nat) :
    (s.entryRetrieve asked time).outputs.siren = s.outputs.siren ∧
      (s.entryRetrieve asked time).outputs.beacon = s.outputs.beacon := by
  cases asked with
  | false => exact ⟨rfl, rfl⟩
  | true =>
    have own : s.retrieve time = (s.retrieve time).refit s.warning s.log s.outputs.siren s.outputs.beacon :=
      State.retrieve_refit s s.warning s.log s.outputs.siren s.outputs.beacon time
    exact ⟨congrArg (·.outputs.siren) own, congrArg (·.outputs.beacon) own⟩

/-- The close of the entry in progress asks the log unit, the clock, the masks and the ports alone (R34, R36). -/
theorem State.closeEntry_refit (s : State) (w : WarningUnit) (a b : OutputState) (level : Level) :
    (s.refit w s.log a b).closeEntry level = (s.closeEntry level).refit w (s.closeEntry level).log a b := by
  obtain empty | mean := Nat.eq_zero_or_pos s.log.entry.span
  · rw [State.closeEntry_of_empty empty, State.closeEntry_of_empty (s := s.refit w s.log a b) empty]
    rfl
  · rw [State.closeEntry_of_mean mean, State.closeEntry_of_mean (s := s.refit w s.log a b) mean]
    rfl

/-- The part with its entry in progress closed where an interval field brings another interval (R35). -/
def State.closedFor (s : State) (i : Option Interval) (level : Level) : State :=
  if i.getD s.log.interval = s.log.interval then s else s.closeEntry level

theorem State.entryInterval_eq (s : State) (i : Option Interval) :
    s.entryInterval i = { s.closedFor i s.warning.level with
      log := { (s.closedFor i s.warning.level).log with interval := i.getD s.log.interval } } := by
  unfold State.entryInterval State.changeInterval State.closedFor
  cases i with
  | none => simp
  | some i =>
    by_cases same : i = s.log.interval
    · simp [same]
    · simp [same]

theorem State.closedFor_refit (s : State) (w : WarningUnit) (a b : OutputState) (i : Option Interval) (level : Level) :
    (s.refit w s.log a b).closedFor i level = (s.closedFor i level).refit w (s.closedFor i level).log a b := by
  unfold State.closedFor
  by_cases same : i.getD s.log.interval = s.log.interval
  · rw [if_pos same]
    exact if_pos same
  · rw [if_neg same, ← State.closeEntry_refit]
    exact if_neg same

theorem State.entryNotice_eq (s : State) (post : Bool) (cls : TriggerClass) (before : Level) (time : Nat) :
    s.entryNotice post cls before time =
      s.postWhen post (notice .levelEvent time (some (.cls cls)) (some (.level before)) (some (.level s.warning.level))) := rfl

/-- Step 5 of an entry beyond the warning unit: its two notices, of which at most one is posted (R88). -/
theorem SameBeyond.entryAck (s : State) (required changed : Bool) (time : Nat) :
    SameBeyond
      ((s.postWhen required (notice .ackDue time (some (.level s.warning.level))
          (some (.num (s.ackSeconds s.warning.level : Nat))) (s.warning.ack.map fun r => .level r.level))).postWhen
        (!required && changed && s.warning.ack.isSome)
        (notice .ackWithdrawn time (s.warning.ack.map fun r => .level r.level) (some (.level s.warning.level))
          (s.warning.ack.map fun r => .num r.overdue)))
      (s.entryAck required changed time) := by
  have posted : ∀ w n, SameBeyond (s.postAll n) ((s.setWarning w).postAll n) := fun w n => by
    rw [State.postAll_setWarning]
    exact .setWarning ..
  cases required with
  | true => exact posted ..
  | false => cases changed with
    | false => exact .refl s
    | true =>
      unfold State.entryAck State.withdrawAck
      cases s.warning.ack with
      | none => exact .refl s
      | some r => exact posted ..

/-! ### The entry as a whole -/

/-- Steps 1 and 2 of an entry: its next level, then its patterns (R85, R86). -/
def State.entryBegun (s : State) (e : ActionEntry) (time : Nat) : State := (s.entryLevel e.next time).entryPatterns e

section Begun

variable (s : State) (e : ActionEntry) (time : Nat)

theorem SameBeyond.entryBegun : SameBeyond s (s.entryBegun e time) :=
  (SameBeyond.entryLevel ..).trans ((SameBeyond.handField ..).trans (.handField ..))

theorem State.entryBegun_level : (s.entryBegun e time).warning.level = e.next.getD s.warning.level := by
  simp [State.entryBegun, State.entryLevel_level]

theorem State.entryBegun_ack : (s.entryBegun e time).warning.ack = s.warning.ack := by
  simp [State.entryBegun, State.entryLevel_warning, apply_ite WarningUnit.ack]

/-- Step 3 after steps 1 and 2: the entry in progress closes with the level the action entry leaves (R35, R87). -/
theorem State.entryBegun_closedFor (i : Option Interval) (level : Level) :
    SameBeyond (s.closedFor i level) ((s.entryBegun e time).closedFor i level) ∧
      ((s.entryBegun e time).closedFor i level).log = (s.closedFor i level).log := by
  have log : (s.entryBegun e time).log = s.log := by simp [State.entryBegun]
  rw [SameBeyond.entryBegun s e time, log, State.closedFor_refit]
  exact ⟨rfl, rfl⟩

theorem State.takeEntry_eq (cls : TriggerClass) :
    let e := s.entryOf s.warning.level cls
    let t := ((s.entryBegun e time).entryInterval e.interval).entryNotice e.notice cls s.warning.level time
    s.takeEntry cls time =
      (t.entryAck e.ack (decide (t.warning.level ≠ s.warning.level)) time).entryRetrieve e.retrieve time := rfl

end Begun

theorem State.takeEntry_log (s : State) (cls : TriggerClass) (time : Nat) :
    let e := s.entryOf s.warning.level cls
    (s.takeEntry cls time).log =
      { (s.closedFor e.interval (e.next.getD s.warning.level)).log with interval := e.interval.getD s.log.interval } := by
  intro e
  have log : (s.entryBegun e time).log = s.log := by simp [State.entryBegun]
  rw [State.takeEntry_eq, State.entryRetrieve_log, State.entryAck_log, State.entryNotice_log, State.entryInterval_eq,
    State.entryBegun_level, (State.entryBegun_closedFor ..).2, log]

/-- The engines after an entry: a level change ends the tests, then the patterns are handed (R86, R109). -/
theorem State.takeEntry_engines (s : State) (cls : TriggerClass) (time : Nat) {e : ActionEntry} {l : Level}
    (entry : s.entryOf s.warning.level cls = e) (level : e.next.getD s.warning.level = l) :
    (s.takeEntry cls time).outputs.siren =
        (e.siren.map ((s.ended l s.outputs.siren).hand s.cfg.patterns)).getD (s.ended l s.outputs.siren) ∧
      (s.takeEntry cls time).outputs.beacon =
        (e.beacon.map ((s.ended l s.outputs.beacon).hand s.cfg.patterns)).getD (s.ended l s.outputs.beacon) := by
  have begun : ((s.entryBegun e time).entryInterval e.interval).outputs = _ :=
    (State.entryInterval_outputs ..).trans (State.entryPatterns_outputs ..)
  rw [State.entryLevel_outputs s e.next time level, State.entryLevel_cfg] at begun
  rw [State.takeEntry_eq, entry, (State.entryRetrieve_engines ..).1, (State.entryRetrieve_engines ..).2,
    State.entryAck_outputs, State.entryNotice_outputs, begun]
  exact ⟨rfl, rfl⟩

/-- The part beyond the three units after an entry: the log entry is closed, the notices are posted, and the retrieve request is made
(R85 to R89). -/
theorem SameBeyond.takeEntry (s : State) (cls : TriggerClass) (time : Nat) :
    let e := s.entryOf s.warning.level cls
    let l := e.next.getD s.warning.level
    SameBeyond
      (((((s.closedFor e.interval l).postWhen e.notice
          (notice .levelEvent time (some (.cls cls)) (some (.level s.warning.level)) (some (.level l)))).postWhen e.ack
          (notice .ackDue time (some (.level l)) (some (.num (s.ackSeconds l : Nat)))
            (s.warning.ack.map fun r => .level r.level))).postWhen
        (!e.ack && decide (l ≠ s.warning.level) && s.warning.ack.isSome)
        (notice .ackWithdrawn time (s.warning.ack.map fun r => .level r.level) (some (.level l))
          (s.warning.ack.map fun r => .num r.overdue))).entryRetrieve e.retrieve time)
      (s.takeEntry cls time) := by
  intro e l
  have level := s.entryBegun_level e time
  have closed : SameBeyond (s.closedFor e.interval l) ((s.entryBegun e time).entryInterval e.interval) := by
    rw [State.entryInterval_eq, level]
    exact (State.entryBegun_closedFor ..).1.trans rfl
  rw [State.takeEntry_eq]
  generalize noticed : ((s.entryBegun e time).entryInterval e.interval).entryNotice e.notice cls s.warning.level time = t
  have t_warning : t.warning = (s.entryBegun e time).warning := by simp [← noticed]
  have t_seconds : t.ackSeconds l = s.ackSeconds l := by simp [← noticed, State.entryBegun, State.ackSeconds]
  have posted := closed.postWhen e.notice
    (notice .levelEvent time (some (.cls cls)) (some (.level s.warning.level)) (some (.level l)))
  rw [State.entryNotice_eq, State.entryInterval_warning, level] at noticed
  rw [noticed] at posted
  have acknowledged := SameBeyond.entryAck t e.ack (decide (l ≠ s.warning.level)) time
  rw [t_warning, level, s.entryBegun_ack, t_seconds] at acknowledged
  rw [t_warning, level]
  exact .entryRetrieve (.trans ((posted.postWhen ..).postWhen ..) acknowledged) ..

/-- The warning unit after an entry, field by field (R63, R85, R88). -/
theorem State.takeEntry_warning_fields (s : State) (cls : TriggerClass) (time : Nat) {e : ActionEntry} {l : Level}
    (entry : s.entryOf s.warning.level cls = e) (level : e.next.getD s.warning.level = l) :
    (s.takeEntry cls time).warning = { s.warning with
      level := l
      lastChange := if l = s.warning.level then s.warning.lastChange else ⟨time, .table⟩
      up := if l = s.warning.level then s.warning.up else 0
      down := if l = s.warning.level then s.warning.down else 0
      ack := if e.ack then some ⟨l, time, s.ackSeconds l, 0, 0⟩ else if l = s.warning.level then s.warning.ack else none } := by
  rw [State.takeEntry_warning, entry]
  dsimp only
  rw [level]
  by_cases same : l = s.warning.level
  · simp only [if_pos same, if_neg (not_not.2 same)]
    rw [← same]
  · simp only [if_neg same, if_pos same]

/-- Settles O19: the three units by their own lemmas, everything beyond them by `SameBeyond.takeEntry`. -/
theorem actionEntryTaken : Obligations.ActionEntryTaken := by
  intro s cls time w e l t minutes handed ended
  have log : t.log = { (s.closedFor e.interval l).log with interval := e.interval.getD s.log.interval } :=
    State.takeEntry_log s cls time
  refine ⟨State.takeEntry_warning_fields s cls time rfl rfl, State.takeEntry_engines s cls time rfl rfl, fun same => ?_, fun changed => ?_, ?_,
    (SameBeyond.takeEntry s cls time).parts⟩
  · rw [log, State.closedFor, if_pos same, same]
  · rw [log, State.closedFor, if_neg changed]
  · exact ⟨State.takeEntry_cfg .., State.takeEntry_clock .., State.takeEntry_sensing .., State.takeEntry_rating ..,
      State.takeEntry_store .., State.takeEntry_save ..⟩

end Sys2Proof.Machine
end

section
/-! Two runs of an evaluation. What an evaluation asks of the part is the warning unit and the settings; everything else it does by
replacing the warning unit and by taking action entries. So a relation of two parts that agree in the two, and that both operations
keep, is kept by the evaluation of one minute close on both. -/
namespace Sys2Proof.Machine

/-- A relation of two parts that an evaluation of both keeps. -/
structure KeptByEvaluation (R : State → State → Prop) : Prop where
  warning : ∀ {s t}, R s t → t.warning = s.warning
  cfg : ∀ {s t}, R s t → t.cfg = s.cfg
  setWarning : ∀ {s t}, R s t → ∀ w, R (s.setWarning w) (t.setWarning w)
  takeEntry : ∀ {s t}, R s t → ∀ cls time, R (s.takeEntry cls time) (t.takeEntry cls time)

/-- Two parts at work on a minute close, in the relation and with the same classes raised. -/
def Progress.Related (R : State → State → Prop) (x y : Progress) : Prop := R x.state y.state ∧ y.raised = x.raised

section Evaluation

variable {R : State → State → Prop} (kept : KeptByEvaluation R) {x y : Progress} (h : x.Related R y)

include kept h

theorem Progress.Related.warning : y.state.warning = x.state.warning := kept.warning h.1

theorem Progress.Related.cfg : y.state.cfg = x.state.cfg := kept.cfg h.1

theorem Progress.Related.setWarning (w : WarningUnit) : (x.setWarning w).Related R (y.setWarning w) :=
  ⟨kept.setWarning h.1 w, h.2⟩

theorem Progress.Related.raise (w : WarningUnit) (cls : TriggerClass) (time : Nat) :
    ((x.setWarning w).raise cls time).Related R ((y.setWarning w).raise cls time) := by
  have taken := kept.takeEntry (kept.setWarning h.1 w) cls time
  refine ⟨taken, ?_⟩
  simp only [Progress.raise, Progress.setWarning, State.setWarning_warning, kept.warning taken, h.2]

/-- A step that raises a class on a condition and steps its counts otherwise. -/
theorem Progress.Related.raiseIf (cond : Prop) [Decidable cond] (w v : WarningUnit) (cls : TriggerClass) (time : Nat) :
    (if cond then (x.setWarning w).raise cls time else x.setWarning v).Related R
      (if cond then (y.setWarning w).raise cls time else y.setWarning v) := by
  split
  · exact h.raise kept w cls time
  · exact h.setWarning kept v

theorem Progress.Related.stepSensor (c : Close) : (stepSensor c x).Related R (stepSensor c y) := by
  unfold Machine.stepSensor
  rw [h.warning kept]
  dsimp only
  split <;> split
  · exact h
  · exact h.raise kept ..
  · exact h.raise kept ..
  · exact h

theorem Progress.Related.stepUp (c : Close) (mean : Int) : (stepUp c mean x).Related R (stepUp c mean y) := by
  unfold Machine.stepUp
  rw [h.warning kept, h.cfg kept]
  dsimp only
  cases x.state.warning.level.stepUp with
  | none => exact h
  | some k => exact h.raiseIf kept ..

theorem Progress.Related.stepDown (c : Close) (mean : Int) : (stepDown c mean x).Related R (stepDown c mean y) := by
  unfold Machine.stepDown
  rw [h.warning kept, h.cfg kept]
  dsimp only
  cases x.state.warning.level.stepDown with
  | none => exact h
  | some k => exact h.raiseIf kept ..

theorem Progress.Related.stepRate (c : Close) : (stepRate c x).Related R (stepRate c y) := by
  unfold Machine.stepRate
  rw [h.warning kept, h.cfg kept]
  dsimp only
  cases c.rate with
  | none => exact h
  | some r => cases x.state.warning.rateState <;> exact h.raiseIf kept ..

theorem Progress.Related.stepFlow (c : Close) : (stepFlow c x).Related R (stepFlow c y) := by
  unfold Machine.stepFlow
  rw [h.warning kept, h.cfg kept]
  dsimp only
  cases c.rated with
  | none => exact h
  | some r => cases x.state.warning.flowState <;> exact h.raiseIf kept ..

theorem Progress.Related.countedSteps (c : Close) : (countedSteps c x).Related R (countedSteps c y) := by
  unfold Machine.countedSteps
  cases c.mean.value with
  | none => exact h
  | some v =>
    dsimp only
    split
    · exact (((h.stepUp kept c v).stepDown kept c v).stepRate kept c).stepFlow kept c
    · exact h

end Evaluation

theorem KeptByEvaluation.evaluate {R : State → State → Prop} (kept : KeptByEvaluation R) {s t : State} (h : R s t)
    (m : MinuteMean) (rate : Option Int) (sensor : SensorState) : R (s.evaluate m rate sensor) (t.evaluate m rate sensor) := by
  have close : t.closeOf m rate sensor = s.closeOf m rate sensor := by rw [State.closeOf, kept.cfg h]; rfl
  have start : Progress.Related R ⟨s, []⟩ ⟨t, []⟩ := ⟨h, rfl⟩
  have worked := (start.stepSensor kept (s.closeOf m rate sensor)).countedSteps kept (s.closeOf m rate sensor)
  unfold State.evaluate
  rw [close]
  dsimp only
  rw [worked.warning kept, worked.2]
  exact kept.setWarning worked.1 _

/-- A property that the warning unit does not reach and that the taking of an action entry keeps is kept by an evaluation (R65). -/
theorem evaluate_keeps {Inv : State → Prop} (warning : ∀ s w, Inv s → Inv (s.setWarning w))
    (entry : ∀ s cls time, Inv s → Inv (s.takeEntry cls time)) {s : State} (h : Inv s) (m : MinuteMean) (rate : Option Int)
    (sensor : SensorState) : Inv (s.evaluate m rate sensor) := by
  have kept : KeptByEvaluation fun s t => s = t ∧ Inv s :=
    { warning := by rintro s _ ⟨rfl, -⟩; rfl
      cfg := by rintro s _ ⟨rfl, -⟩; rfl
      setWarning := by rintro s _ ⟨rfl, hs⟩ w; exact ⟨rfl, warning s w hs⟩
      takeEntry := by rintro s _ ⟨rfl, hs⟩ cls time; exact ⟨rfl, entry s cls time hs⟩ }
  exact (kept.evaluate ⟨rfl, h⟩ m rate sensor).2

end Sys2Proof.Machine
end

section
/-! The log memory (O9). The invariant asks for the entries, the next sequence number and the cursors alone: it is proved of what
each operation on the log leaves of them, and every other operation leaves all three as they are. -/
namespace Sys2Proof.Machine

/-! ### The invariant of the log unit -/

/-- The log memory of a log unit is sound: what `LogSound` says of the log unit of a state. -/
def LogUnit.Sound (l : LogUnit) : Prop :=
  l.entries.length ≤ 8192 ∧ l.nextSeq ≤ 4294967296 ∧ l.entries.length < l.nextSeq ∧
    l.entries.map LogEntry.seq = List.range' (l.nextSeq - l.entries.length) l.entries.length ∧
    ∀ p : Port, l.nextSeq - l.entries.length ≤ (l.cursors.get p).seq ∧ (l.cursors.get p).seq ≤ l.nextSeq

theorem logSound_iff (s : State) : LogSound s ↔ s.log.Sound := Iff.rfl

/-- The memory is cleared and every cursor stands at 1 (R36, R196). -/
theorem LogUnit.sound_of_cleared {l : LogUnit} (entries : l.entries = []) (next : l.nextSeq = 1)
    (cursors : ∀ p, (l.cursors.get p).seq = 1) : l.Sound := by
  simp [LogUnit.Sound, entries, next, cursors]

/-- The oldest sequence number lies as many places below the next one as there are entries. -/
theorem LogUnit.Sound.oldest_eq {l : LogUnit} (h : l.Sound) : l.oldest = l.nextSeq - l.entries.length := by
  obtain ⟨-, -, -, seqs, -⟩ := h
  unfold LogUnit.oldest
  cases entries : l.entries with
  | nil => rfl
  | cons e rest =>
    rw [entries, List.map_cons, List.length_cons, List.range'_succ] at seqs
    exact (List.cons.inj seqs).1

/-- A cursor that stays between the oldest number and one past the newest. -/
theorem LogUnit.Sound.setCursor {l : LogUnit} (h : l.Sound) (p : Port) {c : Cursor} (low : l.oldest ≤ c.seq)
    (high : c.seq ≤ l.nextSeq) : (l.setCursor p c).Sound := by
  rw [h.oldest_eq] at low
  obtain ⟨size, last, room, seqs, cursors⟩ := h
  refine ⟨size, last, room, seqs, fun q => ?_⟩
  rw [LogUnit.setCursor, PerPort.get_set]
  split
  · exact ⟨low, high⟩
  · exact cursors q

theorem LogUnit.Sound.cursor_within {l : LogUnit} (h : l.Sound) (p : Port) :
    l.oldest ≤ (l.cursors.get p).seq ∧ (l.cursors.get p).seq ≤ l.nextSeq := by
  rw [h.oldest_eq]
  obtain ⟨-, -, -, -, cursors⟩ := h
  exact cursors p

theorem LogUnit.Sound.oldest_le_next {l : LogUnit} (h : l.Sound) : l.oldest ≤ l.nextSeq :=
  h.oldest_eq ▸ Nat.sub_le ..

/-! ### The write -/

/-- The next entry joins a memory that has room for it. -/
theorem LogUnit.Sound.append {l : LogUnit} (h : l.Sound) (room : l.entries.length < 8192) (go : l.nextSeq < 4294967296)
    {x : LogEntry} (hx : x.seq = l.nextSeq) : ({ l with entries := l.entries ++ [x], nextSeq := l.nextSeq + 1 } : LogUnit).Sound := by
  obtain ⟨-, -, below, seqs, cursors⟩ := h
  have oldest : l.nextSeq + 1 - (l.entries.length + 1) = l.nextSeq - l.entries.length := Nat.add_sub_add_right ..
  simp only [LogUnit.Sound, List.length_append, List.length_singleton, List.map_append, List.map_singleton, oldest]
  refine ⟨room, go, Nat.succ_lt_succ below, ?_, fun p => ⟨(cursors p).1, (cursors p).2.trans (Nat.le_succ _)⟩⟩
  rw [seqs, List.range'_concat, hx, Nat.one_mul, Nat.sub_add_cancel below.le]

/-- The oldest entry of a memory is removed, and a cursor that stood on it moves on by 1. -/
theorem LogUnit.Sound.dropOldest {l : LogUnit} (h : l.Sound) (held : l.entries ≠ []) {cursors : PerPort Cursor}
    (moved : ∀ p, (cursors.get p).seq = (l.cursors.get p).seq + if (l.cursors.get p).seq = l.oldest then 1 else 0) :
    ({ l with entries := l.entries.tail, cursors := cursors } : LogUnit).Sound := by
  have oldest := h.oldest_eq
  obtain ⟨size, last, below, seqs, within⟩ := h
  have pos : 0 < l.entries.length := List.length_pos_iff.2 held
  simp only [LogUnit.Sound, List.length_tail, List.map_tail]
  refine ⟨by omega, last, by omega, ?_, fun p => ?_⟩
  · rw [seqs, List.tail_range']
    congr 1
    omega
  · have := within p
    rw [moved p]
    split <;> omega

/-- A write keeps the memory sound, whether it is first cleared, loses its oldest entry, or has room (R36, R37). -/
theorem LogUnit.Sound.written {l : LogUnit} (h : l.Sound) (level : Level) : (l.written level).Sound := by
  by_cases last : l.nextSeq = two32
  · have cleared : ({ l with entries := [], nextSeq := 1, cursors := perPort l.cursorAfter } : LogUnit).Sound :=
      LogUnit.sound_of_cleared rfl rfl fun p => by rw [get_perPort, LogUnit.cursorAfter, if_pos last]; rfl
    rw [LogUnit.written, LogUnit.kept, LogUnit.writeSeq, if_pos last, if_pos last]
    exact cleared.append (by simp) (by simp) rfl
  · have go : l.nextSeq < 4294967296 := lt_of_le_of_ne h.2.1 last
    rw [LogUnit.written, LogUnit.kept, LogUnit.writeSeq, if_neg last, if_neg last]
    have after : ∀ p, ((perPort l.cursorAfter).get p).seq = (l.cursors.get p).seq + l.skipped p := fun p => by
      rw [get_perPort, LogUnit.cursorAfter, if_neg last]; rfl
    by_cases full : Config.logSize ≤ l.entries.length
    · have held : l.entries ≠ [] := List.length_pos_iff.1 (Nat.lt_of_lt_of_le (by decide) full)
      have dropped := h.dropOldest (cursors := perPort l.cursorAfter) held fun p => by
        rw [after, LogUnit.skipped, if_neg last]
        simp only [full, true_and]
      rw [if_pos full]
      have size := h.1
      exact dropped.append (by rw [List.length_tail]; omega) go rfl
    · rw [if_neg full, LogUnit.cursorsAfter_of_room last full]
      exact h.append (not_le.1 full) go rfl

/-! ### Operations on the log -/

theorem LogSound.of_log {s t : State} (h : LogSound s) (log : t.log = s.log) : LogSound t := by
  rw [logSound_iff, log]
  exact h

theorem LogSound.closeEntry {s : State} (h : LogSound s) (level : Level) : LogSound (s.closeEntry level) := by
  obtain empty | mean := Nat.eq_zero_or_pos s.log.entry.span
  · rw [State.closeEntry_of_empty empty]
    exact h
  · rw [State.closeEntry_of_mean mean]
    exact LogUnit.Sound.written h level

theorem LogSound.boundaryEntry {s : State} (h : LogSound s) (closeTime : Nat) : LogSound (s.boundaryEntry closeTime) := by
  unfold State.boundaryEntry
  split
  · exact h.closeEntry _
  · exact h

theorem LogSound.takeEntry {s : State} (h : LogSound s) (cls : TriggerClass) (time : Nat) : LogSound (s.takeEntry cls time) := by
  have closed : ∀ i l, LogSound (s.closedFor i l) := fun i l => by
    unfold State.closedFor
    split
    · exact h
    · exact h.closeEntry l
  rw [logSound_iff, State.takeEntry_log]
  exact closed ..

theorem LogSound.resetClock {s : State} (h : LogSound s) (t : Nat) : LogSound (s.resetClock t) := by
  have written : LogSound (if 0 < s.log.entry.span then s.writeEntry s.warning.level else s) := by
    split
    · rw [State.writeEntry_eq]
      exact LogUnit.Sound.written h _
    · exact h
  rw [logSound_iff, State.resetClock, State.postAll_log]
  exact written

/-! ### Events -/

theorem State.postEach_log (s : State) (ns : List Notice) : (s.postEach ns).log = s.log := by
  induction ns generalizing s with
  | nil => rfl
  | cons n ns ih => exact (ih _).trans (State.postAll_log s n)

theorem LogSound.minuteClose {s : State} (h : LogSound s) : LogSound (minuteClose s) := by
  unfold Machine.minuteClose
  split
  · refine evaluate_keeps (fun _ _ hs => hs) (fun _ cls time hs => hs.takeEntry cls time) ?_ ..
    refine LogSound.boundaryEntry ?_ _
    exact h
  · exact h

theorem LogSound.deadlineExpiry {s : State} (h : LogSound s) : LogSound s.deadlineExpiry :=
  h.of_log (State.deadlineExpiry_log s)

theorem LogSound.stationClockCount {s : State} (h : LogSound s) : LogSound (stationClockCount s) := by
  unfold Machine.stationClockCount
  split
  · have settled : LogSound s.settle := (LogSound.deadlineExpiry (h.of_log (State.idleExpiry_log s))).minuteClose
    have sensed : LogSound s.settle.countAll.senseSecond := settled.of_log (State.postEach_log ..)
    exact sensed
  · exact h

theorem exposureExpiry_log (ms : Nat) (waits : Bool) (s : State) : (exposureExpiry ms waits s).log = s.log := by
  unfold exposureExpiry
  split <;> simp

theorem saveCompletion_log (s : State) : (saveCompletion s).log = s.log := by
  unfold saveCompletion
  split <;> simp

theorem LogSound.powerOn {s : State} (h : LogSound s) (held : Bool) (f t d : LevelPair) : LogSound (powerOn held f t d s) := by
  rw [powerOn_frame]
  unfold State.started State.restored
  split
  · exact h
  · exact LogUnit.sound_of_cleared rfl rfl fun p => by cases p <;> rfl

theorem LogSound.restart {s : State} (h : LogSound s) (p : Port) : LogSound (restart p s).1 := by
  rw [logSound_iff, Machine.restart, State.postAll_log]
  exact h

/-! ### Requests -/

theorem unlessSaving_log {f : State → Answer} (h : ∀ s, (f s).1.log = s.log) (s : State) : (unlessSaving f s).1.log = s.log := by
  unfold unlessSaving
  split
  · rfl
  · exact h s

theorem asEditor_log {f : State → Answer} (h : ∀ s, (f s).1.log = s.log) (p : Port) (s : State) :
    (asEditor p f s).1.log = s.log := by
  unfold asEditor
  split
  · exact h _
  · rfl

theorem asHolder_log {f : RunContext → State → Answer} (h : ∀ c s, (f c s).1.log = s.log) (p : Port) (s : State) :
    (asHolder p f s).1.log = s.log := by
  unfold asHolder
  split
  · rfl
  · split
    · exact h _ _
    · rfl

/-- The requests that move a cursor, close an entry or start the log unit anew. -/
def reachesLog (i : Instr) : Bool :=
  match i with
  | .setClock _ _ | .advanceLog _ _ | .seekLog _ _ | .restart _ | .openRun _ _ _ _ => true
  | _ => false

/-- Every other request leaves the log unit as it is, whatever it answers: the cases go by the checks that stand before the answer. -/
theorem request_log {i : Instr} {r : Request} (h : requestOf i = some r) (other : reachesLog i = false) (long : Bool) (s : State) :
    (r.act long s).1.log = s.log := by
  cases i <;> cases h
  case setClock | advanceLog | seekLog | restart | openRun => cases other
  case getPortStatus | getStage | getSensing | getClock | getLogStatus | getTrend | getLogSettings | getRatingStatus | getWarning |
      getWarningSettings | getAckSettings | getOutputs | readPosition | getCounterSettings | getRun | getRunSettings |
      setInitialPoint | surfaceMark => rfl
  case readNotice | saveSettings | readLog | ratingCancel | getAction | getPattern | getMeter =>
    dsimp only [readNotice, saveSettings, readLog, ratingCancel, getAction, getPattern, getMeter]
    split <;> rfl
  case readRating | ratingBegin =>
    dsimp only [readRating, ratingBegin]
    split
    · rfl
    · split <;> rfl
  case readResult | outputTest =>
    dsimp only [readResult, outputTest]
    split
    · split <;> rfl
    · rfl
  case ratingQuery bank h =>
    dsimp only [ratingQuery]
    split
    · rfl
    · rfl
    · split <;> rfl
  case readVertical index point =>
    dsimp only [readVertical]
    split
    · rfl
    · split
      · rfl
      · split
        · rfl
        · split <;> rfl
  case clearPort p =>
    dsimp only [clearPort, reply]
    split <;> simp
  case forceLevel p k =>
    dsimp only [forceLevel]
    split
    · rfl
    · exact State.force_log ..
  case ack p level =>
    dsimp only [ack]
    split
    · rfl
    · rfl
    · split
      · exact State.postAll_log ..
      · rfl
  case takeRun p =>
    dsimp only [takeRun]
    split
    · rfl
    · split
      · rfl
      · split
        · rfl
        · split
          · exact State.postTo_log ..
          · rfl
  -- Requests of the settings.
  case setFloatStage | setCounterSettings => exact unlessSaving_log (fun _ => rfl) s
  case setNoticeMask | setPressStage | setLogSettings | setAction | setPattern | setRunSettings =>
    refine unlessSaving_log (fun s => ?_) s
    split <;> rfl
  case setSensing | setWarningSettings | setAckSettings =>
    refine unlessSaving_log (fun s => ?_) s
    dsimp only
    split <;> rfl
  case setMeter =>
    refine unlessSaving_log (fun s => ?_) s
    split
    · rfl
    · dsimp only
      split
      · split <;> rfl
      · rfl
  -- Requests of the editor of the alternate bank.
  case ratingPoint p index h q =>
    refine asEditor_log (fun s => ?_) p s
    dsimp only
    split
    · rfl
    · split <;> rfl
  case ratingTruncate p count =>
    refine asEditor_log (fun s => ?_) p s
    split <;> rfl
  case ratingCommit p =>
    refine asEditor_log (fun s => ?_) p s
    split
    · rfl
    · split
      · rfl
      · exact State.commitRating_log ..
  -- Requests of the holder of the run.
  case markEdgeStart p _ _ _ | markBed p | stopPoint p =>
    refine asHolder_log (fun c s => ?_) p s
    split <;> rfl
  case closeRun p =>
    refine asHolder_log (fun c s => ?_) p s
    split
    · exact State.endRun_log ..
    · rfl
  case abandonRun p => exact asHolder_log (fun c s => (State.endRun_log ..).trans (State.abandonWork_log ..)) p s
  case alter p _ | endVertical p _ _ | resumeRun p =>
    refine asHolder_log (fun c s => ?_) p s
    split
    · split <;> rfl
    · rfl
  case redo p _ =>
    refine asHolder_log (fun c s => ?_) p s
    split
    · dsimp only
      split <;> rfl
    · rfl
  case startPoint p _ =>
    refine asHolder_log (fun c s => ?_) p s
    split
    · split
      · rfl
      · split <;> rfl
    · rfl
  case beginVertical p | markEdgeEnd p _ _ =>
    refine asHolder_log (fun c s => ?_) p s
    split
    · dsimp only
      split
      · rfl
      · split <;> rfl
    · rfl
  case accept p =>
    refine asHolder_log (fun c s => ?_) p s
    split
    · split
      · rfl
      · split
        · exact State.postAll_log ..
        · rfl
    · rfl

/-- Every request keeps the log memory sound; OPEN_RUN, which sets the run flag of the entry in progress, leaves the memory. -/
theorem LogSound.request {i : Instr} {r : Request} (hr : requestOf i = some r) (long : Bool) {s : State} (h : LogSound s) :
    LogSound (r.act long s).1 := by
  cases reaches : reachesLog i with
  | false => exact h.of_log (request_log hr reaches long s)
  | true =>
    cases i
    case setClock t =>
      cases hr
      dsimp only [setClock]
      split
      · exact h
      · exact h.deadlineExpiry.minuteClose.resetClock _
    case advanceLog p n =>
      cases hr
      dsimp only [advanceLog]
      split
      · rename_i within
        obtain ⟨low, high⟩ := LogUnit.Sound.cursor_within h p
        exact LogUnit.Sound.setCursor h p (low.trans (Nat.le_add_right ..)) (Nat.add_le_of_le_sub' high within)
      · exact h
    case seekLog p seq =>
      cases hr
      exact LogUnit.Sound.setCursor h p (le_max_left ..) (max_le (LogUnit.Sound.oldest_le_next h) (min_le_left ..))
    case restart p =>
      cases hr
      exact h.restart p
    case openRun p meter target coeff =>
      cases hr
      dsimp only [openRun]
      split
      · split <;> exact h
      · split <;> exact h
    all_goals cases reaches

theorem LogSound.exec {i : Instr} {s t : State} (h : LogSound s) (e : exec i s = .next t) : LogSound t :=
  exec_keeps (Inv := LogSound)
    (stamp := fun _ _ h => h)
    (place := fun _ _ _ h => h)
    (exchange := fun _ _ _ h => h)
    (release := fun _ _ _ _ h => h)
    (request := fun _ _ long _ hr _ h => h.request hr long)
    (count := fun _ h => h.stationClockCount)
    (close := fun _ h => h.minuteClose)
    (sensing := fun _ _ _ h => h)
    (cableway := fun _ _ _ h => h)
    (meter := fun s ms h => h.of_log (exposureExpiry_log ms true s))
    (expose := fun s ms waits h => h.of_log (exposureExpiry_log ms waits s))
    (phase := fun _ _ _ h => h)
    (idle := fun s h => h.of_log (State.idleExpiry_log s))
    (deadline := fun _ h => h.deadlineExpiry)
    (completion := fun s h => h.of_log (saveCompletion_log s))
    (on := fun _ held f t d h => h.powerOn held f t d)
    (loss := fun _ h => h)
    h e

/-- Settles O9: the write, the requests that move a cursor and the start of the log unit keep the memory sound, and every other
command leaves it. -/
theorem stepKeepsLogSound : Obligations.StepKeepsLogSound := by
  intro s t h e
  unfold step at e
  split at e
  · cases e
    exact h
  · rename_i c rest _
    exact LogSound.exec (s := { s with pending := rest }) h e

end Sys2Proof.Machine
end

section
/-! The minute close (O15). -/
namespace Sys2Proof.Machine

/-- The trend ring after a minute mean: an absent mean joins it not, and a full ring loses its oldest (R29). -/
theorem joinRing_eq (ring : List MinuteMean) (m : MinuteMean) :
    joinRing ring m =
      if m.value = none then ring else if ring.length < 61 then ring ++ [m] else ring.tail ++ [m] := by
  unfold joinRing
  cases m.value with
  | none => rfl
  | some v => simp [Config.ringSize]

theorem joinRing_of_present (ring : List MinuteMean) {m : MinuteMean} {v : Int} (h : m.value = some v) :
    ∃ front, joinRing ring m = front ++ [m] := by
  rw [joinRing_eq, if_neg (by simp [h])]
  split
  · exact ⟨ring, rfl⟩
  · exact ⟨ring.tail, rfl⟩

/-- The newest mean of a ring that a present mean has joined (R30). -/
theorem meanBefore_zero (front : List MinuteMean) {m : MinuteMean} : meanBefore (front ++ [m]) 0 = m.value := by
  simp [meanBefore]

/-- The rate of rise at a minute close (R30): the present mean less the mean W places before it in the ring it joined. -/
theorem closeRate_eq (m : MinuteMean) (ring : List MinuteMean) (w : Nat) :
    closeRate m (joinRing ring m) w =
      (let ring := joinRing ring m
       if ring.length ≤ w then none else m.value.bind fun m0 =>
         ((ring[ring.length - 1 - w]?).bind MinuteMean.value).map fun mW => roundDiv ((m0 - mW) * 60) w) := by
  unfold closeRate
  cases present : m.value with
  | none => simp
  | some v =>
    obtain ⟨front, joined⟩ := joinRing_of_present ring present
    have newest : meanBefore (joinRing ring m) 0 = some v := by rw [joined, meanBefore_zero, present]
    simp only [rateOfRise, newest, Option.bind_some]
    by_cases short : (joinRing ring m).length ≤ w
    · rw [meanBefore, if_neg (by omega), if_pos short]
    · rw [meanBefore, if_pos (by omega), if_neg short]
      cases ((joinRing ring m)[(joinRing ring m).length - 1 - w]?).bind MinuteMean.value <;> rfl

/-- Settles O15: the ring and the rate by `joinRing_eq` and `closeRate_eq`; the mean, the entry and the boundary are read off. -/
theorem minuteClose_holds : Obligations.MinuteClose := by
  intro s powered
  refine ⟨fun idle => ?_, fun due => ?_⟩
  · refine (event_of_powered powered minuteClose).trans (congrArg _ ?_)
    exact if_neg (by simp [idle])
  · intro a n m ring w rate e entry u v
    refine (event_of_powered powered minuteClose).trans (congrArg _ ((if_pos due).trans ?_))
    have ring_eq : joinRing s.log.ring m = ring := joinRing_eq ..
    have rate_eq : closeRate m (joinRing s.log.ring m) w = rate := by rw [closeRate_eq, ring_eq]
    have closed : s.closeMinute = State.evaluate (State.boundaryEntry { s with log := { s.log with
        acc := emptyAccumulator, closeDue := false, ring := joinRing s.log.ring m
        rate := closeRate m (joinRing s.log.ring m) w, lastMean := some m
        entry := gatherMean s.log.entry m s.clock.unset s.run.ctx.isSome } } s.clock.time) m
        (closeRate m (joinRing s.log.ring m) w) (a.sensor.getD s.sensing.sensorState) := rfl
    rw [closed, rate_eq, ring_eq]
    rfl

end Sys2Proof.Machine
end

section
/-! SET_CLOCK (O21). The request is heard on its port before its block acts, while the events it takes first, and the statement, speak
of a port that has not been heard: a last-request time passes through everything the block does. -/
namespace Sys2Proof.Machine

/-! ### A last-request time -/

/-- A port whose last request came at a time (R180). -/
def PortState.heard (q : PortState) (time : Nat) : PortState := { q with lastRequest := some time }

/-- The part with a request heard on a port at a time (R180). -/
def State.heard (s : State) (p : Port) (time : Nat) : State := s.setPort p ((s.port p).heard time)

theorem State.stamp_eq_heard (s : State) (p : Port) : s.stamp p = s.heard p s.clock.time := rfl

theorem PortState.received_heard (q : PortState) (time : Nat) (mask : BitVec 18) (n : Notice) :
    (q.heard time).received mask n = (q.received mask n).heard time := by
  unfold PortState.received
  split <;> rfl

theorem PortState.toldLoss_heard (q : PortState) (heard : Nat) (mask : BitVec 18) (time skipped : Nat) (c : Cursor) :
    (q.heard heard).toldLoss mask time skipped c = (q.toldLoss mask time skipped c).heard heard := by
  unfold PortState.toldLoss
  split
  · rfl
  · exact PortState.received_heard ..

/-- The answer of a block that acted on a part whose port was heard. -/
theorem State.answer_heard (s : State) (p : Port) (time : Nat) (code : Byte) (st : Status) (b : Body) :
    State.answer p code false (reply (s.heard p time) st b) = s.answered p time code st b :=
  State.answer_answered rfl fun _ => State.port_setPort ..

section Heard

variable (s : State) (p : Port) (time : Nat)

theorem State.port_heard (q : Port) : (s.heard p time).port q = if q = p then (s.port q).heard time else s.port q := by
  rw [State.heard, State.port_setPort]
  split
  · rename_i same
    rw [same]
  · rfl

theorem State.postTo_heard (q : Port) (n : Notice) : (s.heard p time).postTo q n = (s.postTo q n).heard p time := by
  rw [State.postTo_eq, State.postTo_eq]
  refine State.ext_ports rfl fun x => ?_
  simp only [State.port_setPort, State.port_heard]
  by_cases at_q : x = q
  · subst at_q
    by_cases at_p : x = p
    · simp only [if_pos at_p, if_true]
      exact PortState.received_heard ..
    · simp only [if_neg at_p, if_true]
      rfl
  · simp only [if_neg at_q]

theorem State.postAll_heard (n : Notice) : (s.heard p time).postAll n = (s.postAll n).heard p time := by
  simp only [State.postAll, State.postTo_heard]

theorem State.postWhen_heard (cond : Bool) (n : Notice) :
    (s.heard p time).postWhen cond n = (s.postWhen cond n).heard p time := by
  cases cond with
  | false => rfl
  | true => exact State.postAll_heard ..

theorem State.postRetrieve_heard (c : RunContext) (closeTime : Nat) (e : Option RunState) :
    (s.heard p time).postRetrieve c closeTime e = (s.postRetrieve c closeTime e).heard p time := by
  unfold State.postRetrieve
  cases c.holder with
  | some q => exact State.postTo_heard ..
  | none => exact State.postAll_heard ..

theorem State.retrieve_heard (closeTime : Nat) : (s.heard p time).retrieve closeTime = (s.retrieve closeTime).heard p time := by
  unfold State.retrieve
  have run : (s.heard p time).run = s.run := rfl
  have cableway : (s.heard p time).cableway = s.cableway := rfl
  rw [run, cableway]
  cases s.run.ctx with
  | none => rfl
  | some c =>
    dsimp only
    cases c.phase with
    | opened | finished | retrieving _ => exact State.postRetrieve_heard ..
    | rest r => exact State.postRetrieve_heard (s.enterRetrieving c r) ..
    | exposing v f =>
      cases s.cableway.exposure with
      | none => exact State.postRetrieve_heard (s.enterRetrieving c _) ..
      | some x => exact State.postRetrieve_heard ((s.endExposure _).enterRetrieving c _) ..

theorem State.entryRetrieve_heard (asked : Bool) (closeTime : Nat) :
    (s.heard p time).entryRetrieve asked closeTime = (s.entryRetrieve asked closeTime).heard p time := by
  cases asked with
  | false => rfl
  | true => exact State.retrieve_heard ..

theorem State.toldPorts_heard (q : Port) :
    (s.heard p time).toldPorts.get q = if q = p then (s.toldPorts.get q).heard time else s.toldPorts.get q := by
  simp only [State.toldPorts, get_perPort, State.port_heard]
  split
  · exact PortState.toldLoss_heard ..
  · rfl

theorem State.closeEntry_heard (level : Level) : (s.heard p time).closeEntry level = (s.closeEntry level).heard p time := by
  obtain empty | mean := Nat.eq_zero_or_pos s.log.entry.span
  · rw [State.closeEntry_of_empty empty, State.closeEntry_of_empty (s := s.heard p time) empty]
    rfl
  · rw [State.closeEntry_of_mean mean, State.closeEntry_of_mean (s := s.heard p time) mean]
    refine State.ext_ports rfl fun q => ?_
    rw [State.port_heard]
    exact State.toldPorts_heard ..

theorem State.boundaryEntry_heard (closeTime : Nat) :
    (s.heard p time).boundaryEntry closeTime = (s.boundaryEntry closeTime).heard p time := by
  unfold State.boundaryEntry
  rw [State.closeEntry_heard, apply_ite (State.heard · p time)]
  rfl

theorem State.closedFor_heard (i : Option Interval) (level : Level) :
    (s.heard p time).closedFor i level = (s.closedFor i level).heard p time := by
  unfold State.closedFor
  rw [State.closeEntry_heard, apply_ite (State.heard · p time)]
  rfl

/-- The taking of an action entry: beyond the three units by its notices, and in each of them not by the ports. -/
theorem State.takeEntry_heard (cls : TriggerClass) (closeTime : Nat) :
    (s.heard p time).takeEntry cls closeTime = (s.takeEntry cls closeTime).heard p time := by
  have beyond := SameBeyond.takeEntry (s.heard p time) cls closeTime
  simp only [State.closedFor_heard, State.postWhen_heard, State.entryRetrieve_heard] at beyond
  have warning : ((s.heard p time).takeEntry cls closeTime).warning = (s.takeEntry cls closeTime).warning := by
    rw [State.takeEntry_warning, State.takeEntry_warning]
    rfl
  have log : ((s.heard p time).takeEntry cls closeTime).log = (s.takeEntry cls closeTime).log := by
    rw [State.takeEntry_log, State.takeEntry_log, State.closedFor_heard]
    rfl
  obtain ⟨siren, beacon⟩ := State.takeEntry_engines (s.heard p time) cls closeTime rfl rfl
  obtain ⟨siren', beacon'⟩ := State.takeEntry_engines s cls closeTime rfl rfl
  unfold SameBeyond at beyond
  rw [warning, log, siren.trans siren'.symm, beacon.trans beacon'.symm] at beyond
  refine beyond.trans ?_
  exact congrArg (State.heard · p time) (SameBeyond.takeEntry s cls closeTime).symm

theorem State.evaluate_heard (m : MinuteMean) (rate : Option Int) (sensor : SensorState) :
    (s.heard p time).evaluate m rate sensor = (s.evaluate m rate sensor).heard p time :=
  KeptByEvaluation.evaluate (R := fun s t => t = s.heard p time)
    { warning := by rintro s _ rfl; rfl
      cfg := by rintro s _ rfl; rfl
      setWarning := by rintro s _ rfl w; rfl
      takeEntry := by rintro s _ rfl cls closeTime; exact State.takeEntry_heard .. } rfl m rate sensor

theorem minuteClose_heard : minuteClose (s.heard p time) = (minuteClose s).heard p time := by
  unfold minuteClose
  rw [apply_ite (State.heard · p time)]
  have closed : (s.heard p time).closeMinute = s.closeMinute.heard p time := by
    unfold State.closeMinute
    rw [← State.evaluate_heard, ← State.boundaryEntry_heard]
    rfl
  rw [closed]
  rfl

theorem State.deadlineExpiry_heard : (s.heard p time).deadlineExpiry = s.deadlineExpiry.heard p time := by
  unfold State.deadlineExpiry
  have warning : (s.heard p time).warning = s.warning := rfl
  rw [warning]
  cases s.warning.ack with
  | none => rfl
  | some r =>
    dsimp only
    split
    · rw [← State.postAll_heard]
      rfl
    · rfl

end Heard

/-! ### The request -/

/-- SET_CLOCK closes the entry in progress, empties the log unit's minute, ring and rate, and posts CLOCK_SET (R26). -/
theorem State.resetClock_eq (s : State) (t : Nat) :
    s.resetClock t = (let w := s.closeEntry s.warning.level
      { w with
        clock := ⟨t, false, some 0⟩
        log := { w.log with
          acc := emptyAccumulator, closeDue := false, ring := [], rate := none, timeStep := true } }).postAll
        (notice .clockSet t (some (.num s.clock.time)) (some (.num t)) (some (.flag s.clock.unset))) := by
  unfold State.resetClock
  obtain empty | mean := Nat.eq_zero_or_pos s.log.entry.span
  · rw [State.closeEntry_of_empty empty, if_neg (by simp [empty])]
    rfl
  · rw [State.closeEntry_of_mean mean, if_pos mean, State.writeEntry_eq]
    rfl

theorem State.resetClock_heard (s : State) (p : Port) (time t : Nat) :
    (s.heard p time).resetClock t = (s.resetClock t).heard p time := by
  rw [State.resetClock_eq, State.resetClock_eq, ← State.postAll_heard]
  dsimp only
  have closed : (s.heard p time).closeEntry (s.heard p time).warning.level = (s.closeEntry s.warning.level).heard p time :=
    State.closeEntry_heard ..
  rw [closed]
  rfl

/-- A minute close leaves the station time (R31). -/
theorem minuteClose_clock (s : State) : (minuteClose s).clock = s.clock := by
  unfold minuteClose
  split
  · refine evaluate_keeps (Inv := fun t => t.clock = s.clock) (fun _ _ h => h)
      (fun t cls time h => (State.takeEntry_clock t cls time).trans h) ?_ ..
    exact State.boundaryEntry_clock ..
  · rfl

theorem State.deadlineExpiry_of_running {s : State} (h : ∀ r, s.warning.ack = some r → 0 < r.timer) : s.deadlineExpiry = s := by
  unfold State.deadlineExpiry
  split
  · rfl
  · rename_i r pending
    exact if_neg (h r pending).ne'

/-- Settles O21: the request acts on a part whose port was heard, which passes through the two events it takes first and through the
reset. -/
theorem setClock_holds : Obligations.SetClock := by
  intro p t s taken within
  refine ⟨fun opened => ?_, fun idle => ?_⟩
  · refine exec_refused (i := .setClock p t) rfl taken ?_
    dsimp only [setClock]
    split
    · rfl
    · exact absurd ‹_› opened
  · have powered := taken.1
    refine ⟨s.deadlineExpiry, minuteClose s.deadlineExpiry, event_of_powered powered _,
      event_of_powered ((State.deadlineExpiry_powered s).trans powered) _, fun running not_due => ?_, ?_⟩
    · rw [State.deadlineExpiry_of_running running]
      exact if_neg (by simp [not_due])
    · intro w
      have clock : (minuteClose s.deadlineExpiry).clock = s.clock :=
        (minuteClose_clock _).trans (State.deadlineExpiry_clock s)
      have wire : wire32 t = t := Nat.mod_eq_of_lt within
      have act : setClock t (s.stamp p) =
          reply (((minuteClose s.deadlineExpiry).resetClock t).heard p s.clock.time) .ok (.clockSet s.clock.time t) := by
        unfold setClock
        rw [State.stamp_run, idle, State.stamp_eq_heard, State.deadlineExpiry_heard, minuteClose_heard, wire,
          State.resetClock_heard]
        rfl
      rw [exec_of_request (i := .setClock p t) rfl, State.takeRequest_of_takes taken]
      refine congrArg _ ((congrArg (State.answer p 0x21 false) act).trans ?_)
      rw [State.answer_heard, State.resetClock_eq, clock]
      rfl

end Sys2Proof.Machine
end

section
/-! The log requests: READ_LOG and SEEK_LOG (O22), ADVANCE_LOG (O23). -/
namespace Sys2Proof.Machine

/-- The response to a request that moved the port's own cursor. -/
theorem exec_cursor_moved {i : Instr} {r : Request} {s : State} {c : Cursor} {st : Status} {b : Body}
    (hr : requestOf i = some r) (h : s.takes r.port)
    (act : r.act false (s.stamp r.port) =
      reply { s.stamp r.port with log := { s.log with cursors := s.log.cursors.set r.port c } } st b) :
    exec i s = .next (({ s with log := { s.log with cursors := s.log.cursors.set r.port c } }).answered r.port s.clock.time
      r.code st b) :=
  exec_answered hr h rfl act

/-- A place brought between the oldest number and one past the newest (R40). -/
theorem seek_clamp {oldest next : Nat} (h : oldest ≤ next) (seq : Nat) :
    max oldest (min next seq) = if seq < oldest then oldest else if next < seq then next else seq := by
  split
  · omega
  · split <;> omega

/-- Settles O22: READ_LOG gives what stands; SEEK_LOG sets the cursor by the clamp. -/
theorem logReading : Obligations.LogReading := by
  intro p s taken c
  refine ⟨fun count => ⟨fun size => ?_, fun size => ?_⟩, fun seq bounds => ?_⟩
  · exact exec_read (i := .readLog p count) rfl taken (if_pos size)
  · exact exec_refused (i := .readLog p count) rfl taken (if_neg (by omega))
  · intro new
    have clamp : max (s.stamp p).log.oldest (min (s.stamp p).log.nextSeq seq) = new := seek_clamp bounds seq
    refine exec_cursor_moved (i := .seekLog p seq) (c := ⟨new, 0⟩) rfl taken ?_
    have status : okStatus (decide (new ≠ seq)) = if new = seq then .ok else .okClamped := by
      by_cases h : new = seq <;> simp [okStatus, h]
    simp only [seekLog, clamp, status]
    rw [LogUnit.setCursor, LogUnit.unread, PerPort.get_set_same]
    rfl

/-- Settles O23: the unread count after the move is the count before it less n. -/
theorem advanceLog_holds : Obligations.AdvanceLog := by
  intro p n s taken c unread
  refine ⟨fun within => ?_, fun beyond => ⟨.empty, ?_⟩⟩
  · refine exec_cursor_moved (i := .advanceLog p n) (c := ⟨c.seq + n, 0⟩) rfl taken ((if_pos within).trans ?_)
    simp only [LogUnit.setCursor, LogUnit.unread, PerPort.get_set_same, State.stamp_log]
    rw [← Nat.sub_sub]
  · exact exec_refused (i := .advanceLog p n) rfl taken (if_neg (not_le.2 beyond))

end Sys2Proof.Machine
end

section
/-! The thresholds and the banks (O7). The invariant asks for the up-thresholds, the principal bank, the stored copy and the alternate
bank alone: few commands reach one of them, and every other leaves all four as they are. -/
namespace Sys2Proof.Machine

/-! ### What the invariant looks at -/

/-- The thresholds and the bank of a set of settings are sound (R46, R64). -/
def Settings.Sound (c : Settings) : Prop := thresholdsOrdered c.warning ∧ BankValid c.bank ∧ BankSized c.bank

/-- What the thresholds and the banks of a state are. -/
structure Ruled where
  warning   : WarningSettings
  bank      : List RatingPoint
  stored    : Settings
  alternate : List RatingPoint

/-- The thresholds and the banks of a state. -/
def State.ruled (s : State) : Ruled := ⟨s.cfg.warning, s.cfg.bank, s.store.settings, s.rating.alternate⟩

/-- The settings in force and those in the store are sound, and the alternate bank is within its bounds (R46, R64). -/
def SettingsSound (s : State) : Prop := s.cfg.Sound ∧ s.store.settings.Sound ∧ BankSized s.rating.alternate

theorem settingsSound_iff (s : State) : SettingsSound s ↔ ThresholdsOrdered s ∧ BanksSound s := by
  unfold SettingsSound Settings.Sound ThresholdsOrdered BanksSound
  tauto

theorem SettingsSound.of_ruled {s t : State} (h : SettingsSound s) (same : t.ruled = s.ruled) : SettingsSound t := by
  obtain ⟨warning, bank, stored, alternate⟩ := Ruled.mk.inj same
  unfold SettingsSound Settings.Sound
  rw [warning, bank, stored, alternate]
  exact h

/-! ### Notices, the clock and the minute close -/

theorem State.postAll_ruled (s : State) (n : Notice) : (s.postAll n).ruled = s.ruled := by simp [State.ruled]

theorem State.postEach_ruled (s : State) (ns : List Notice) : (s.postEach ns).ruled = s.ruled := by
  induction ns generalizing s with
  | nil => rfl
  | cons n ns ih => exact (ih _).trans (s.postAll_ruled n)

theorem State.evaluate_ruled (s : State) (m : MinuteMean) (rate : Option Int) (sensor : SensorState) :
    (s.evaluate m rate sensor).ruled = s.ruled :=
  evaluate_keeps (Inv := fun t => t.ruled = s.ruled) (fun _ _ h => h)
    (fun t cls time h => by rw [← h]; simp [State.ruled]) rfl m rate sensor

theorem minuteClose_ruled (s : State) : (minuteClose s).ruled = s.ruled := by
  unfold minuteClose
  split
  · refine (State.evaluate_ruled ..).trans ?_
    simp [State.ruled]
  · rfl

theorem State.idleExpiry_ruled (s : State) : s.idleExpiry.ruled = s.ruled := by
  unfold State.idleExpiry
  split <;> rfl

theorem State.deadlineExpiry_ruled (s : State) : s.deadlineExpiry.ruled = s.ruled := by simp [State.ruled]

theorem RatingUnit.count_alternate (r : RatingUnit) : r.count.alternate = r.alternate := by rw [RatingUnit.count_eq]

theorem stationClockCount_ruled (s : State) : (stationClockCount s).ruled = s.ruled := by
  have settled : s.settle.ruled = s.ruled :=
    (minuteClose_ruled _).trans ((State.deadlineExpiry_ruled _).trans (State.idleExpiry_ruled s))
  unfold stationClockCount
  split
  · refine Eq.trans (b := s.settle.countAll.ruled) (State.postEach_ruled ..) (Eq.trans ?_ settled)
    simp [State.ruled, State.countAll, RatingUnit.count_alternate]
  · rfl

theorem State.resetClock_ruled (s : State) (t : Nat) : (s.resetClock t).ruled = s.ruled := by simp [State.ruled]

theorem exposureExpiry_ruled (ms : Nat) (waits : Bool) (s : State) : (exposureExpiry ms waits s).ruled = s.ruled := by
  unfold exposureExpiry
  split <;> simp [State.ruled]

theorem saveCompletion_ruled (s : State) : (saveCompletion s).ruled = s.ruled := by
  unfold saveCompletion
  split <;> simp [State.ruled]

/-! ### A start -/

theorem Settings.sound_factory : factorySettings.Sound := by
  obtain ⟨-, -, -, thresholds, banks, -⟩ := resetMeetsInvariants
  exact ((settingsSound_iff State.reset).2 ⟨thresholds, banks⟩).1

theorem BankSized.nil : BankSized [] := ⟨Nat.zero_le _, nofun⟩

theorem SettingsSound.powerOn {s : State} (h : SettingsSound s) (held : Bool) (f t d : LevelPair) :
    SettingsSound (powerOn held f t d s) := by
  obtain ⟨-, stored, -⟩ := h
  have loaded : s.loadedSettings.Sound := by
    unfold State.loadedSettings
    split
    · exact stored
    · exact Settings.sound_factory
  rw [powerOn_frame]
  exact ⟨loaded, stored, .nil⟩

theorem SettingsSound.restart {s : State} (h : SettingsSound s) (p : Port) : SettingsSound (restart p s).1 := by
  obtain ⟨cfg, stored, -⟩ := h
  rw [Machine.restart, State.postAll_frame]
  exact ⟨cfg, stored, .nil⟩

/-! ### Requests that reach none of the four -/

section Wrappers

variable {α : Type} (view : State → α)

theorem unlessSaving_view {f : State → Answer} (h : ∀ s, view (f s).1 = view s) (s : State) :
    view (unlessSaving f s).1 = view s := by
  unfold unlessSaving
  split
  · rfl
  · exact h s

theorem asHolder_view (ctx : ∀ s c, view (s.setCtx c) = view s) {f : RunContext → State → Answer}
    (h : ∀ c s, view (f c s).1 = view s) (p : Port) (s : State) : view (asHolder p f s).1 = view s := by
  unfold asHolder
  split
  · rfl
  · split
    · exact (h _ _).trans (ctx ..)
    · rfl

end Wrappers

/-- The requests that reach a threshold, a bank or the stored copy. -/
def reachesRuled (i : Instr) : Bool :=
  match i with
  | .setWarningSettings _ _ | .ratingBegin _ | .ratingPoint _ _ _ _ | .ratingTruncate _ _ | .ratingCommit _ | .saveSettings _ |
    .restart _ => true
  | _ => false

/-- Every other request leaves them as they are, whatever it answers: the cases go by the checks that stand before the answer. -/
theorem request_ruled {i : Instr} {r : Request} (h : requestOf i = some r) (other : reachesRuled i = false) (long : Bool)
    (s : State) : (r.act long s).1.ruled = s.ruled := by
  have setting : ∀ {f : State → Answer}, (∀ s, (f s).1.ruled = s.ruled) → (unlessSaving f s).1.ruled = s.ruled :=
    fun h => unlessSaving_view State.ruled h s
  have holder : ∀ {f : RunContext → State → Answer} (p : Port), (∀ c s, (f c s).1.ruled = s.ruled) →
      (asHolder p f s).1.ruled = s.ruled := fun p h => asHolder_view State.ruled (fun _ _ => rfl) h p s
  cases i <;> cases h
  case setWarningSettings | ratingBegin | ratingPoint | ratingTruncate | ratingCommit | saveSettings | restart => cases other
  case getPortStatus | getStage | getSensing | getClock | getLogStatus | getTrend | getLogSettings | getRatingStatus | getWarning |
      getWarningSettings | getAckSettings | getOutputs | readPosition | getCounterSettings | getRun | getRunSettings | seekLog |
      setInitialPoint | surfaceMark => rfl
  case readNotice | readLog | advanceLog | ratingCancel | getAction | getPattern | getMeter =>
    dsimp only [readNotice, readLog, advanceLog, ratingCancel, getAction, getPattern, getMeter]
    split <;> rfl
  case readRating | readResult | outputTest | openRun | ratingQuery | readVertical =>
    dsimp only [readRating, readResult, outputTest, openRun, ratingQuery, readVertical]
    repeat' split
    all_goals rfl
  case clearPort | forceLevel | ack | takeRun =>
    dsimp only [clearPort, forceLevel, ack, takeRun, reply]
    repeat' split
    all_goals simp [State.ruled, RatingUnit.release, refuse]
  case setClock p t =>
    dsimp only [setClock]
    split
    · rfl
    · exact (State.resetClock_ruled ..).trans ((minuteClose_ruled _).trans (State.deadlineExpiry_ruled s))
  -- Requests of the settings.
  case setFloatStage | setCounterSettings => exact setting fun _ => rfl
  case setNoticeMask | setPressStage | setLogSettings | setAction | setPattern | setRunSettings =>
    refine setting fun s => ?_
    split <;> rfl
  case setSensing | setAckSettings | setMeter =>
    refine setting fun s => ?_
    dsimp only
    repeat' split
    all_goals rfl
  -- Requests of the holder of the run.
  case markEdgeStart p _ _ _ | markBed p | stopPoint p | alter p _ | endVertical p _ _ | resumeRun p | startPoint p _ =>
    refine holder p fun c s => ?_
    repeat' split
    all_goals rfl
  case redo p _ | beginVertical p | markEdgeEnd p _ _ =>
    refine holder p fun c s => ?_
    split
    · dsimp only
      repeat' split
      all_goals rfl
    · rfl
  case accept p | closeRun p | abandonRun p =>
    refine holder p fun c s => ?_
    repeat' split
    all_goals simp [State.ruled, reply, refuse]

/-! ### Requests that reach one of the four -/

/-- The thresholds are ordered whenever a field of them is given, and stand otherwise (R64). -/
theorem thresholdsOrdered_new {f : PerStep (Option Int)} {c d : WarningSettings} (h : thresholdsOrdered c)
    (new : d.u = (newThresholds f c.u).1) : thresholdsOrdered d := by
  have ordered : ∀ u, d.u = orderThresholds u → thresholdsOrdered d := by
    intro u e
    simp only [thresholdsOrdered, e, orderThresholds, clamp]
    omega
  unfold newThresholds at new
  dsimp only at new
  split at new
  · exact ordered _ new
  · rw [thresholdsOrdered, new]
    exact h

/-- A point as RATING_POINT clamps it (R53). -/
theorem RatingPoint.inRange_clamped (h q : Int) : RatingPoint.inRange ⟨(clampStage h).mm, (clampMarked 0 10000000 q).mm⟩ :=
  ⟨clamp_bounds h (by decide), clamp_bounds q (by decide)⟩

theorem BankSized.set {bank : List RatingPoint} (sized : BankSized bank) {x : RatingPoint} (hx : x.inRange) (i : Nat) :
    BankSized (bank.set i x) := by
  obtain ⟨size, points⟩ := sized
  refine ⟨by rwa [List.length_set], fun y hy => ?_⟩
  obtain old | rfl := List.mem_or_eq_of_mem_set hy
  · exact points y old
  · exact hx

theorem BankSized.append {bank : List RatingPoint} (sized : BankSized bank) {x : RatingPoint} (hx : x.inRange)
    (room : bank.length < 32) : BankSized (bank ++ [x]) := by
  obtain ⟨-, points⟩ := sized
  refine ⟨by simpa using room, fun y hy => ?_⟩
  obtain old | new := List.mem_append.1 hy
  · exact points y old
  · rwa [List.mem_singleton.1 new]

theorem BankSized.take {bank : List RatingPoint} (sized : BankSized bank) (n : Nat) : BankSized (bank.take n) := by
  obtain ⟨size, points⟩ := sized
  exact ⟨(List.length_take_le' ..).trans size, fun y hy => points y (List.mem_of_mem_take hy)⟩

/-- An edit leaves the alternate bank within its bounds where the new one is. -/
theorem SettingsSound.editAlternate {s : State} (h : SettingsSound s) {bank : List RatingPoint} (sized : BankSized bank)
    (clamped : Bool) : SettingsSound (editAlternate s bank clamped).1 := by
  obtain ⟨cfg, stored, -⟩ := h
  exact ⟨cfg, stored, sized⟩

theorem SettingsSound.asEditor {p : Port} {f : State → Answer} (h : ∀ s, SettingsSound s → SettingsSound (f s).1) {s : State}
    (sound : SettingsSound s) : SettingsSound (asEditor p f s).1 := by
  unfold Machine.asEditor
  split
  · exact h _ sound
  · exact sound

theorem SettingsSound.setWarningSettings {s : State} (h : SettingsSound s) (a : WarningArgs) :
    SettingsSound (setWarningSettings a s).1 := by
  obtain ⟨⟨thresholds, bank⟩, stored, alternate⟩ := id h
  unfold Machine.setWarningSettings unlessSaving
  dsimp only
  repeat' split
  · exact h
  · exact ⟨⟨thresholdsOrdered_new (f := a.u) thresholds rfl, bank⟩, stored, alternate⟩
  · exact h

theorem SettingsSound.ratingBegin {s : State} (h : SettingsSound s) (p : Port) : SettingsSound (ratingBegin p s).1 := by
  obtain ⟨cfg, stored, -⟩ := id h
  obtain ⟨-, -, sized⟩ := id cfg
  unfold Machine.ratingBegin
  dsimp only
  repeat' split
  · exact ⟨cfg, stored, sized⟩
  · exact ⟨cfg, stored, sized⟩
  · exact h

theorem SettingsSound.ratingPoint {s : State} (h : SettingsSound s) (p : Port) (index : Nat) (stage q : Int) :
    SettingsSound (ratingPoint p index stage q s).1 := by
  refine .asEditor (fun s h => ?_) h
  obtain ⟨-, -, sized⟩ := id h
  have point := RatingPoint.inRange_clamped stage q
  dsimp only
  split
  · exact h.editAlternate (sized.set point index) _
  · split
    · rename_i append
      obtain ⟨rfl, room⟩ := append
      exact h.editAlternate (sized.append point room) _
    · exact h

theorem SettingsSound.ratingTruncate {s : State} (h : SettingsSound s) (p : Port) (count : Nat) :
    SettingsSound (ratingTruncate p count s).1 := by
  refine .asEditor (fun s h => ?_) h
  obtain ⟨-, -, sized⟩ := id h
  split
  · exact h.editAlternate (sized.take count) _
  · exact h

/-- A commit exchanges a valid alternate bank for the principal one (R55). -/
theorem SettingsSound.ratingCommit {s : State} (h : SettingsSound s) (p : Port) : SettingsSound (ratingCommit p s).1 := by
  refine .asEditor (fun s h => ?_) h
  obtain ⟨⟨thresholds, -, principal⟩, stored, alternate⟩ := id h
  split
  · exact h
  · split
    · exact h
    · rename_i valid
      have bank := (bankFailure_eq_none _).1 valid
      dsimp only [reply]
      rw [State.commitRating, State.postAll_frame]
      exact ⟨⟨thresholds, bank, alternate⟩, stored, principal⟩

theorem SettingsSound.saveSettings {s : State} (h : SettingsSound s) (p : Port) (long : Bool) :
    SettingsSound (saveSettings p long s).1 := by
  obtain ⟨cfg, -, alternate⟩ := id h
  unfold Machine.saveSettings
  split
  · exact h
  · exact ⟨cfg, cfg, alternate⟩

/-! ### Every command -/

theorem SettingsSound.request {i : Instr} {r : Request} (hr : requestOf i = some r) (long : Bool) {s : State}
    (h : SettingsSound s) : SettingsSound (r.act long s).1 := by
  cases reaches : reachesRuled i with
  | false => exact h.of_ruled (request_ruled hr reaches long s)
  | true =>
    cases i
    case setWarningSettings => cases hr; exact h.setWarningSettings _
    case ratingBegin => cases hr; exact h.ratingBegin _
    case ratingPoint => cases hr; exact h.ratingPoint ..
    case ratingTruncate => cases hr; exact h.ratingTruncate ..
    case ratingCommit => cases hr; exact h.ratingCommit _
    case saveSettings => cases hr; exact h.saveSettings ..
    case restart => cases hr; exact h.restart _
    all_goals cases reaches

theorem SettingsSound.exec {i : Instr} {s t : State} (h : SettingsSound s) (e : exec i s = .next t) : SettingsSound t :=
  exec_keeps (Inv := SettingsSound)
    (stamp := fun _ _ h => h)
    (place := fun _ _ _ h => h)
    (exchange := fun _ _ _ h => h)
    (release := fun _ _ _ _ h => h)
    (request := fun _ _ long _ hr _ h => h.request hr long)
    (count := fun s h => h.of_ruled (stationClockCount_ruled s))
    (close := fun s h => h.of_ruled (minuteClose_ruled s))
    (sensing := fun _ _ _ h => h)
    (cableway := fun _ _ _ h => h)
    (meter := fun s ms h => h.of_ruled (exposureExpiry_ruled ms true s))
    (expose := fun s ms waits h => h.of_ruled (exposureExpiry_ruled ms waits s))
    (phase := fun _ _ _ h => h)
    (idle := fun s h => h.of_ruled s.idleExpiry_ruled)
    (deadline := fun s h => h.of_ruled s.deadlineExpiry_ruled)
    (completion := fun s h => h.of_ruled (saveCompletion_ruled s))
    (on := fun _ held f t d h => h.powerOn held f t d)
    (loss := fun _ h => h)
    h e

/-- Settles O7: the requests of the thresholds and the banks, a save and a start keep them sound, and every other command leaves
them. -/
theorem stepKeepsSettingsSound : Obligations.StepKeepsSettingsSound := by
  intro s t thresholds banks e
  have sound := (settingsSound_iff s).2 ⟨thresholds, banks⟩
  rw [← settingsSound_iff]
  unfold step at e
  split at e
  · cases e
    exact sound
  · rename_i c rest _
    exact SettingsSound.exec (s := { s with pending := rest }) sound e

end Sys2Proof.Machine
end

section
/-! The rated discharge of a valid bank (O28): one segment's line through its two points, then the walk along the bank to the segment
of a stage. -/
namespace Sys2Proof.Machine

/-! ### Rounding -/

/-- A greater dividend has no smaller quotient: on each side of zero the quotient is a floor or its mirror image. -/
theorem roundDiv_mono {n m d : Int} (hd : 0 < d) (h : n ≤ m) : roundDiv n d ≤ roundDiv m d := by
  have of_nonneg : ∀ {x y : Int}, 0 ≤ x → x ≤ y → roundDiv x d ≤ roundDiv y d := by
    intro x y hx hxy
    rw [roundDiv_of_nonneg hx, roundDiv_of_nonneg (hx.trans hxy)]
    exact Int.ediv_le_ediv (by omega) (by omega)
  obtain hn | hn := le_or_gt 0 n
  · exact of_nonneg hn h
  · rw [roundDiv_of_neg hn]
    obtain hm | hm := le_or_gt 0 m
    · have low := roundDiv_nonneg (neg_nonneg.2 hn.le) hd
      have high := roundDiv_nonneg hm hd
      omega
    · rw [roundDiv_of_neg hm]
      exact neg_le_neg (of_nonneg (neg_nonneg.2 hm.le) (neg_le_neg h))

/-- An exact quotient is not rounded. -/
theorem roundDiv_mul_left {d : Int} (hd : 0 < d) {k : Int} (hk : 0 ≤ k) : roundDiv (d * k) d = k := by
  rw [roundDiv_of_nonneg (mul_nonneg hd.le hk), show 2 * (d * k) + d = d * (2 * k + 1) by ring, mul_comm 2 d,
    Int.mul_ediv_mul_of_pos _ _ hd]
  omega

/-! ### One segment -/

/-- The order that R46 asks of two neighbouring points. -/
def RatingPoint.Below (a b : RatingPoint) : Prop := a.h < b.h ∧ a.q ≤ b.q

section Segment

variable {a b : RatingPoint} (below : a.Below b)

include below

theorem onSegment_mono {h h' : Int} (le : h ≤ h') : onSegment a b h ≤ onSegment a b h' := by
  obtain ⟨stage, flow⟩ := below
  refine add_le_add_right (roundDiv_mono (by omega) ?_) _
  exact mul_le_mul_of_nonneg_right (by omega) (by omega)

theorem onSegment_left : onSegment a b a.h = a.q := by
  have width : 0 < b.h - a.h := sub_pos.2 below.1
  simp [onSegment, roundDiv_zero width]

theorem onSegment_right : onSegment a b b.h = b.q := by
  obtain ⟨stage, flow⟩ := below
  rw [onSegment, roundDiv_mul_left (by omega) (by omega)]
  omega

end Segment

/-! ### The walk along the bank -/

theorem aboveBank_eq (q : Int) : aboveBank q = ⟨min 10000000 q, ⟨false, true, decide (10000000 < q)⟩⟩ := by
  unfold aboveBank
  split
  · rename_i beyond
    rw [min_eq_left beyond.le, decide_eq_true beyond]
  · rename_i within
    rw [min_eq_right (not_lt.1 within), decide_eq_false within]

section Walk

variable {h : Int} {a b : RatingPoint}

theorem ratedAfter_within (le : h ≤ b.h) (rest : List RatingPoint) :
    ratedAfter h a (b :: rest) = ⟨onSegment a b h, ⟨false, false, false⟩⟩ := if_pos le

theorem ratedAfter_last (above : b.h < h) : ratedAfter h a [b] = aboveBank (onSegment a b h) := if_neg (not_le.2 above)

theorem ratedAfter_beyond (above : b.h < h) (c : RatingPoint) (rest : List RatingPoint) :
    ratedAfter h a (b :: c :: rest) = ratedAfter h b (c :: rest) := if_neg (not_le.2 above)

/-- The walk passes every point below the stage (R47). -/
theorem ratedDischarge_after {pre post : List RatingPoint} (sorted : (pre ++ a :: b :: post).Pairwise RatingPoint.Below)
    (above : a.h < h) : ratedDischarge (pre ++ a :: b :: post) h = ratedAfter h a (b :: post) := by
  have walk : ∀ (pre : List RatingPoint) (x : RatingPoint), (x :: (pre ++ a :: b :: post)).Pairwise RatingPoint.Below →
      ratedAfter h x (pre ++ a :: b :: post) = ratedAfter h a (b :: post) := by
    intro pre
    induction pre with
    | nil => exact fun x _ => ratedAfter_beyond above ..
    | cons y pre ih =>
      intro x sorted
      have rest := sorted.of_cons
      have y_below : y.h < h := ((List.pairwise_cons.1 rest).1 a (by simp)).1.trans above
      cases pre with
      | nil => exact (ratedAfter_beyond y_below ..).trans (ih y rest)
      | cons z pre => exact (ratedAfter_beyond y_below ..).trans (ih y rest)
  cases pre with
  | nil => exact if_neg (not_le.2 above)
  | cons x pre =>
    have x_below : x.h < h := ((List.pairwise_cons.1 sorted).1 a (by simp)).1.trans above
    exact (if_neg (not_le.2 x_below)).trans (walk pre x sorted)

end Walk

/-! ### Bounds and order -/

/-- At a point the walk that starts there gives its own discharge. -/
theorem ratedAfter_self {a b : RatingPoint} (below : a.Below b) (rest : List RatingPoint) :
    (ratedAfter a.h a (b :: rest)).q = a.q := by
  rw [ratedAfter_within below.1.le]
  exact onSegment_left below

/-- Above a point the rated discharge never falls as the stage rises: on one segment by its line, across a point by that point's
discharge (R47). -/
theorem ratedAfter_mono {rest : List RatingPoint} :
    ∀ {a : RatingPoint} {h h' : Int}, (a :: rest).Pairwise RatingPoint.Below → (∀ x ∈ rest, x.q ≤ 10000000) → h ≤ h' →
      (ratedAfter h a rest).q ≤ (ratedAfter h' a rest).q := by
  induction rest with
  | nil => exact fun _ _ _ => le_rfl
  | cons b rest ih =>
    intro a h h' sorted capped le
    have below : a.Below b := (List.pairwise_cons.1 sorted).1 b (by simp)
    have line : onSegment a b h ≤ onSegment a b h' := onSegment_mono below le
    have tail : ∀ x ∈ rest, x.q ≤ 10000000 := fun x hx => capped x (.tail _ hx)
    obtain within | past := le_or_gt h b.h
    · rw [ratedAfter_within within]
      obtain within' | past' := le_or_gt h' b.h
      · rw [ratedAfter_within within']
        exact line
      · have to_b : onSegment a b h ≤ b.q := (onSegment_mono below within).trans_eq (onSegment_right below)
        cases rest with
        | nil =>
          rw [ratedAfter_last past', aboveBank_eq]
          exact le_min (to_b.trans (capped b (by simp))) line
        | cons c rest =>
          have from_b := ih sorted.of_cons tail past'.le
          rw [ratedAfter_self ((List.pairwise_cons.1 sorted.of_cons).1 c (by simp))] at from_b
          rw [ratedAfter_beyond past']
          exact to_b.trans from_b
    · have past' : b.h < h' := past.trans_le le
      cases rest with
      | nil =>
        rw [ratedAfter_last past, ratedAfter_last past', aboveBank_eq, aboveBank_eq]
        exact min_le_min_left _ line
      | cons c rest =>
        rw [ratedAfter_beyond past, ratedAfter_beyond past']
        exact ih sorted.of_cons tail le

/-- Above a point the rated discharge is at least that point's (R47). -/
theorem le_ratedAfter {h : Int} {a : RatingPoint} {rest : List RatingPoint} (ne : rest ≠ [])
    (sorted : (a :: rest).Pairwise RatingPoint.Below) (capped : ∀ x ∈ rest, x.q ≤ 10000000) (above : a.h ≤ h) :
    a.q ≤ (ratedAfter h a rest).q := by
  obtain ⟨b, rest, rfl⟩ := List.exists_cons_of_ne_nil ne
  have risen := ratedAfter_mono sorted capped above
  rwa [ratedAfter_self ((List.pairwise_cons.1 sorted).1 b (by simp))] at risen

/-- The rated discharge above a point is capped where the points are (R47). -/
theorem ratedAfter_le {h : Int} {rest : List RatingPoint} (ne : rest ≠ []) :
    ∀ {a : RatingPoint}, (a :: rest).Pairwise RatingPoint.Below → (∀ x ∈ rest, x.q ≤ 10000000) →
      (ratedAfter h a rest).q ≤ 10000000 := by
  induction rest with
  | nil => exact absurd rfl ne
  | cons b rest ih =>
    intro a sorted capped
    have below : a.Below b := (List.pairwise_cons.1 sorted).1 b (by simp)
    obtain within | past := le_or_gt h b.h
    · rw [ratedAfter_within within]
      have line : onSegment a b h ≤ b.q := (onSegment_mono below within).trans_eq (onSegment_right below)
      exact line.trans (capped b (by simp))
    · cases rest with
      | nil =>
        rw [ratedAfter_last past, aboveBank_eq]
        exact min_le_left ..
      | cons c rest =>
        rw [ratedAfter_beyond past]
        exact ih (by simp) sorted.of_cons fun x hx => capped x (.tail _ hx)

section Rating

variable {h : Int} {a : RatingPoint} {rest : List RatingPoint}

theorem ratedDischarge_below (le : h ≤ a.h) : ratedDischarge (a :: rest) h = ⟨a.q, ⟨true, false, false⟩⟩ := if_pos le

theorem ratedDischarge_above (above : a.h < h) : ratedDischarge (a :: rest) h = ratedAfter h a rest := if_neg (not_le.2 above)

/-- Every point of a bank but the first has the one before it. -/
theorem exists_neighbour {x : RatingPoint} (hx : x ∈ rest) : ∃ pre y post, a :: rest = pre ++ y :: x :: post := by
  obtain ⟨before, post, rfl⟩ := List.append_of_mem hx
  obtain rfl | ⟨pre, y, rfl⟩ := List.eq_nil_or_concat before
  · exact ⟨[], a, post, rfl⟩
  · exact ⟨a :: pre, y, post, by simp⟩

end Rating

/-- Settles O28: the three cases by the walk along the bank, the order and the bounds by induction along it. -/
theorem ratedDischarge_holds : Obligations.RatedDischarge := by
  intro bank valid sized line
  obtain ⟨two, sorted⟩ := valid
  obtain ⟨-, points⟩ := sized
  have between : ∀ (pre post : List RatingPoint) (a b : RatingPoint) (h : Int), bank = pre ++ a :: b :: post → a.h < h →
      h ≤ b.h → ratedDischarge bank h = ⟨line a b h, ⟨false, false, false⟩⟩ := by
    rintro pre post a b h rfl above within
    rw [ratedDischarge_after sorted above, ratedAfter_within within]
    rfl
  have beyond : ∀ (pre : List RatingPoint) (a b : RatingPoint) (h : Int), bank = pre ++ [a, b] → b.h < h →
      ratedDischarge bank h = ⟨min 10000000 (line a b h), ⟨false, true, decide (10000000 < line a b h)⟩⟩ := by
    rintro pre a b h rfl past
    have below : a.Below b := by simpa [RatingPoint.Below] using (List.pairwise_append.1 sorted).2.1
    rw [ratedDischarge_after sorted (below.1.trans past), ratedAfter_last past, aboveBank_eq]
    rfl
  obtain ⟨first, rest, rfl⟩ : ∃ first rest, bank = first :: rest :=
    List.exists_cons_of_length_pos (Nat.zero_lt_of_lt two)
  have ne : rest ≠ [] := by rintro rfl; exact absurd two (by simp)
  have capped : ∀ x ∈ rest, x.q ≤ 10000000 := fun x hx => (points x (.tail _ hx)).2.2
  have first_range : first.inRange := points first (by simp)
  refine ⟨?_, between, beyond, fun x hx => ?_, fun h h' le => ?_, fun h => ?_⟩
  · rintro a rest' h e le
    cases e
    exact ratedDischarge_below le
  · obtain rfl | hx := List.mem_cons.1 hx
    · rw [ratedDischarge_below le_rfl]
    · obtain ⟨pre, y, post, split⟩ := exists_neighbour (a := first) hx
      have below : y.Below x := by
        rw [split] at sorted
        exact (List.pairwise_cons.1 (List.pairwise_append.1 sorted).2.1).1 x (by simp)
      rw [between pre post y x x.h split below.1 le_rfl]
      exact onSegment_right below
  · obtain low | high := le_or_gt h first.h
    · rw [ratedDischarge_below low]
      obtain low' | high' := le_or_gt h' first.h
      · rw [ratedDischarge_below low']
      · rw [ratedDischarge_above high']
        exact le_ratedAfter ne sorted capped high'.le
    · rw [ratedDischarge_above high, ratedDischarge_above (high.trans_le le)]
      exact ratedAfter_mono sorted capped le
  · obtain ⟨-, low_q, high_q⟩ := first_range
    obtain low | high := le_or_gt h first.h
    · rw [ratedDischarge_below low]
      exact ⟨low_q, high_q⟩
    · rw [ratedDischarge_above high]
      exact ⟨low_q.trans (le_ratedAfter ne sorted capped high.le), ratedAfter_le ne sorted capped⟩

end Sys2Proof.Machine
end

section
/-! The rating requests: editing (O29), RATING_CANCEL (O30) and RATING_COMMIT (O31). -/
namespace Sys2Proof.Machine

/-! ### The first failure of a bank -/

theorem bankFailure_short {bank : List RatingPoint} (h : bank.length < 2) : bankFailure bank = some ⟨.tooFewPoints, none⟩ :=
  if_pos h

/-- The search for a failure of order passes the points that are in order (R53). -/
theorem orderFailure_append {a : RatingPoint} {pre : List RatingPoint} (sorted : (pre ++ [a]).Pairwise RatingPoint.Below)
    (rest : List RatingPoint) (i : Nat) : orderFailure i (pre ++ a :: rest) = orderFailure (i + pre.length) (a :: rest) := by
  induction pre generalizing i with
  | nil => rfl
  | cons x pre ih =>
    have pass : ∀ (y : RatingPoint) (l : List RatingPoint), x.Below y → orderFailure i (x :: y :: l) = orderFailure (i + 1) (y :: l) := by
      intro y l below
      exact (if_neg (not_le.2 below.1)).trans (if_neg (not_lt.2 below.2))
    have next := List.pairwise_cons.1 sorted
    rw [List.length_cons, show i + (pre.length + 1) = i + 1 + pre.length by omega, ← ih next.2]
    cases pre with
    | nil => exact pass _ _ (next.1 _ (by simp))
    | cons y pre => exact pass _ _ (next.1 _ (by simp))

section Failure

variable {pre post : List RatingPoint} {a b : RatingPoint} (sorted : (pre ++ [a]).Pairwise RatingPoint.Below)

include sorted

theorem bankFailure_append : bankFailure (pre ++ a :: b :: post) = orderFailure pre.length (a :: b :: post) := by
  have two : ¬ (pre ++ a :: b :: post).length < 2 := by simp; omega
  rw [bankFailure, if_neg two, orderFailure_append sorted, Nat.zero_add]

theorem bankFailure_stage (h : b.h ≤ a.h) :
    bankFailure (pre ++ a :: b :: post) = some ⟨.stageOrder, some (pre.length + 1)⟩ :=
  (bankFailure_append sorted).trans (if_pos h)

theorem bankFailure_discharge (stage : a.h < b.h) (h : b.q < a.q) :
    bankFailure (pre ++ a :: b :: post) = some ⟨.dischargeOrder, some (pre.length + 1)⟩ :=
  (bankFailure_append sorted).trans ((if_neg (not_le.2 stage)).trans (if_pos h))

end Failure

/-! ### The edit claim -/

/-- No idle expiry without a claim, nor while its timer runs (R51, log 8). -/
theorem State.idleExpiry_of_running {s : State} (h : s.rating.claim = none ∨ 0 < s.rating.idle) : s.idleExpiry = s := by
  refine if_neg fun due => ?_
  obtain ⟨claimed, out⟩ := due
  obtain free | runs := h
  · rw [free] at claimed
    exact nomatch claimed
  · exact runs.ne' out

/-- The idle expiry of a claim whose timer has run out (R51). -/
theorem State.idleExpiry_of_due {s : State} {p : Port} (claim : s.rating.claim = some p) (out : s.rating.idle = 0) :
    s.idleExpiry = { s with rating := s.rating.release } := if_pos ⟨by rw [claim]; rfl, out⟩

/-- An editing request of the holder that is refused has loaded the idle timer (R51). -/
theorem exec_edit_refused {i : Instr} {r : Request} {s : State} {st : Status} (hr : requestOf i = some r) (h : s.takes r.port)
    (act : r.act false (s.stamp r.port) = refuse (s.stamp r.port).reloadIdle st) :
    exec i s = .next (({ s with rating := { s.rating with idle := 600 } } : State).refusedOn r.port r.code st) :=
  exec_answered (u := s.reloadIdle) hr h rfl act

/-! ### Editing -/

/-- RATING_BEGIN where no other port holds the claim (R52). -/
theorem ratingBegin_free {s : State} {p : Port} (h : s.rating.claim = none ∨ s.rating.claim = some p) :
    ratingBegin p s = reply { s with rating := { s.rating with alternate := s.cfg.bank, claim := some p, idle := 600 } } .ok
      (.ratingBegun s.rating.generation s.cfg.bank.length) := by
  unfold ratingBegin
  obtain free | own := h
  · rw [free]
    rfl
  · rw [own]
    exact if_pos rfl

/-- RATING_BEGIN where another port holds the claim (R52). -/
theorem ratingBegin_held {s : State} {p q : Port} (other : q ≠ p) (h : s.rating.claim = some q) :
    ratingBegin p s = reply s .heldByOther (.heldBy q (max 1 s.rating.idle)) := by
  unfold ratingBegin
  rw [h]
  exact if_neg other

/-- Settles O29: the claim decides who edits, the index or the count where; the failures by the search along the bank. -/
theorem ratingEditing : Obligations.RatingEditing := by
  refine ⟨rfl, fun p s taken => ?_⟩
  intro r edited heard
  refine ⟨fun free => ?_, fun q other held => ?_, fun bank => ⟨bankFailure_short, (bankFailure_eq_none bank).2, ?_⟩, ?_⟩
  · exact exec_answered (i := .ratingBegin p) rfl taken rfl (ratingBegin_free (s := s.stamp p) free)
  · exact exec_answered (i := .ratingBegin p) (u := s) rfl taken rfl (ratingBegin_held (s := s.stamp p) other held)
  · rintro pre post a b rfl sorted
    exact ⟨bankFailure_stage sorted, bankFailure_discharge sorted⟩
  intro index count h q point st
  refine ⟨fun other => ⟨?_, ?_⟩, fun holder => ⟨fun replace => ?_, fun append room => ?_, fun outside => ?_, fun within => ?_,
    fun beyond => ?_⟩⟩
  · exact exec_refused (i := .ratingPoint p index h q) rfl taken (if_neg other)
  · exact exec_refused (i := .ratingTruncate p count) rfl taken (if_neg other)
  · exact exec_answered (i := .ratingPoint p index h q) rfl taken rfl ((if_pos holder).trans (if_pos replace))
  · refine exec_answered (i := .ratingPoint p index h q) rfl taken rfl ((if_pos holder).trans ?_)
    exact (if_neg append.not_lt).trans (if_pos ⟨append, room⟩)
  · refine exec_edit_refused (i := .ratingPoint p index h q) rfl taken ((if_pos holder).trans ?_)
    have no_point : ¬ index < r.alternate.length := by omega
    have no_room : ¬ (index = r.alternate.length ∧ index < 32) := by omega
    exact (if_neg no_point).trans (if_neg no_room)
  · exact exec_answered (i := .ratingTruncate p count) rfl taken rfl ((if_pos holder).trans (if_pos within))
  · refine exec_edit_refused (i := .ratingTruncate p count) rfl taken ((if_pos holder).trans ?_)
    exact if_neg (not_le.2 beyond)

/-! ### RATING_CANCEL -/

/-- Settles O30: a timer without a claim neither counts nor expires. -/
theorem ratingCancel_holds : Obligations.RatingCancel := by
  intro p s taken
  refine ⟨fun holder => ?_, fun other => ⟨.empty, exec_refused (i := .ratingCancel p) rfl taken (if_neg other)⟩⟩
  refine ⟨0, .empty, _, ?_, rfl, rfl, ?_⟩
  · exact exec_answered (i := .ratingCancel p) (u := { s with rating := s.rating.release }) rfl taken rfl (if_pos holder)
  · refine (event_of_powered ?_ State.idleExpiry).trans (congrArg _ (State.idleExpiry_of_running (.inl rfl)))
    exact taken.1

/-! ### RATING_COMMIT -/

/-- A request that is taken and answered, whose block leaves the ports alone but for one posting at its end. -/
theorem exec_posted {i : Instr} {r : Request} {s u : State} {n : Notice} {st : Status} {b : Body} (hr : requestOf i = some r)
    (h : s.takes r.port) (ports : u.ports = s.ports)
    (act : r.act false (s.stamp r.port) = reply (({ u with ports := (s.stamp r.port).ports } : State).postAll n) st b) :
    exec i s = .next ((u.postAll n).answered r.port s.clock.time r.code st b) := by
  have port : ∀ q, u.port q = s.port q := fun q => congrArg (PerPort.get · q) ports
  rw [exec_of_request hr, State.takeRequest_of_takes h, act]
  refine congrArg _ (State.answer_posted rfl fun q => ?_)
  rw [port, port]
  exact State.port_setPort ..

/-- The generation wraps from 65,535 (R57). -/
theorem nextGeneration_eq {g : Nat} (h : g ≤ 65535) : nextGeneration g = if g = 65535 then 0 else g + 1 := by
  unfold nextGeneration two16
  split <;> omega

/-- Settles O31: the checks one after the other, each with the idle timer loaded, then the act. -/
theorem ratingCommit_holds : Obligations.RatingCommit := by
  intro p s taken r heard run
  have unsaved : s.save = none → ¬ (s.stamp p).reloadIdle.saving = true := fun idle => by simp [State.saving, idle]
  have invalid : r.claim = some p → s.save = none → ∀ f, bankFailure r.alternate = some f →
      run = .next (heard.answered p s.clock.time 0x34 .invalidTable (.ratingInvalid (some f))) := by
    intro holder idle f failure
    refine exec_answered (i := .ratingCommit p) rfl taken rfl ((if_pos holder).trans ((if_neg (unsaved idle)).trans ?_))
    rw [show bankFailure (s.stamp p).reloadIdle.rating.alternate = some f from failure]
    rfl
  refine ⟨fun other => ?_, fun holder saving => ?_, fun holder idle => ⟨fun not_valid => ?_, fun short => ?_, ?_⟩, ?_⟩
  · exact exec_refused (i := .ratingCommit p) rfl taken (if_neg other)
  · refine exec_edit_refused (i := .ratingCommit p) rfl taken ((if_pos holder).trans (if_pos ?_))
    exact Option.isSome_iff_ne_none.2 saving
  · obtain ⟨f, failure⟩ := Option.ne_none_iff_exists'.1 fun none_found => not_valid ((bankFailure_eq_none _).1 none_found)
    exact ⟨f, invalid holder idle f failure⟩
  · exact invalid holder idle _ (bankFailure_short short)
  · intro pre post a b split sorted
    refine ⟨fun stage => invalid holder idle _ ?_, fun stage flow => invalid holder idle _ ?_⟩
    · rw [split]
      exact bankFailure_stage sorted stage
    · rw [split]
      exact bankFailure_discharge sorted stage flow
  · intro holder idle valid g width
    have act : ratingCommit p (s.stamp p) = reply ((s.stamp p).reloadIdle.commitRating p) .ok (.ratingCommitted g) := by
      refine (if_pos holder).trans ((if_neg (unsaved idle)).trans ?_)
      rw [show bankFailure (s.stamp p).reloadIdle.rating.alternate = none from (bankFailure_eq_none _).2 valid]
      exact congrArg (fun n => reply _ .ok (.ratingCommitted n)) (nextGeneration_eq width)
    refine exec_posted (i := .ratingCommit p) rfl taken rfl (act.trans ?_)
    rw [State.commitRating, show nextGeneration (s.stamp p).reloadIdle.rating.generation = g from nextGeneration_eq width]
    rfl

end Sys2Proof.Machine
end

section
/-! The reads with fields (O60). -/
namespace Sys2Proof.Machine

/-! ### Points with their indexes -/

theorem numbered_length (i : Nat) (points : List RatingPoint) : (numbered i points).length = points.length := by
  induction points generalizing i with
  | nil => rfl
  | cons x points ih => exact congrArg (· + 1) (ih (i + 1))

theorem numbered_getElem? (i : Nat) (points : List RatingPoint) (k : Nat) :
    (numbered i points)[k]? = (points[k]?).map fun x => (i + k, x) := by
  induction points generalizing i k with
  | nil => rfl
  | cons x points ih =>
    cases k with
    | zero => rfl
    | succ k =>
      rw [numbered, List.getElem?_cons_succ, List.getElem?_cons_succ, ih, show i + 1 + k = i + (k + 1) by omega]

/-! ### Used points -/

theorem Point.usable_iff (q : Point) : q.usable = true ↔ q.result.marks.discarded = false ∧ q.excluded = false := by
  simp [Point.usable]

theorem Point.not_usable_iff (q : Point) : q.usable = false ↔ q.result.marks.discarded = true ∨ q.excluded = true := by
  cases h : q.result.marks.discarded <;> cases k : q.excluded <;> simp [Point.usable, h, k]

/-- READ_VERTICAL calls a point used where it is usable and no later point of its fraction is (R141, R173). -/
theorem readPoint_used_iff (q : Point) (later : List Point) :
    (usedPoint q.fraction (q :: later) = some q ∧ q.usable = true ∧
      later.filter (fun x => decide (x.fraction = q.fraction) && x.usable) = []) ↔
    q.result.marks.discarded = false ∧ q.excluded = false ∧
      ∀ x ∈ later, x.fraction = q.fraction → x.result.marks.discarded = true ∨ x.excluded = true := by
  have no_later : later.filter (fun x => decide (x.fraction = q.fraction) && x.usable) = [] ↔
      ∀ x ∈ later, x.fraction = q.fraction → x.result.marks.discarded = true ∨ x.excluded = true := by
    simp only [List.filter_eq_nil_iff, Bool.and_eq_true, decide_eq_true_eq, not_and, Bool.not_eq_true, Point.not_usable_iff]
  rw [no_later, Point.usable_iff, and_assoc, and_iff_right_iff_imp]
  rintro ⟨discarded, excluded, unused⟩
  have usable := (Point.usable_iff q).2 ⟨discarded, excluded⟩
  simp [usedPoint, usable, no_later.2 unused]

/-! ### READ_VERTICAL -/

section Found

variable {s : State} {index : Nat} {v : Vertical} (found : s.run.verticals[index]? = some v)

include found

theorem readVertical_whole : readVertical index none s = reply s .ok (.verticalRead { v with points := [] } v.points.length
    v.partialQ.isSome (if s.run.ctx.isSome then none else shareOf s.run.listTotal v)) := by
  unfold readVertical
  rw [found]
  rfl

theorem readVertical_no_point {j : Nat} (h : v.points.length ≤ j ∨ 3 < j) : readVertical index (some j) s = refuse s .badValue := by
  unfold readVertical
  rw [found]
  dsimp only
  cases point : v.points[j]? with
  | none => rfl
  | some q =>
    have held : j < v.points.length := (List.getElem?_eq_some_iff.1 point).1
    exact if_pos (h.resolve_left (not_le.2 held))

theorem readVertical_point {pre later : List Point} {q : Point} (points : v.points = pre ++ q :: later) (few : pre.length ≤ 3) :
    readVertical index (some pre.length) s = reply s .ok (.pointRead q (decide (usedPoint q.fraction (q :: later) = some q ∧
      q.usable = true ∧ later.filter (fun x => decide (x.fraction = q.fraction) && x.usable) = []))) := by
  have from_here : v.points.drop pre.length = q :: later := by rw [points, List.drop_left]
  have here : v.points[pre.length]? = some q := by simp [points]
  unfold readVertical
  rw [found]
  dsimp only
  rw [here, ← List.drop_drop, from_here]
  exact if_neg (not_lt.2 few)

end Found

/-- The share of a vertical: absent while the run is open, for a list total of 0 and for a vertical not finalised (R173). -/
theorem share_cases {ctx : Option RunContext} {total share : Option Int} {v : Vertical}
    (h : share = none ∧ (ctx ≠ none ∨ total = none ∨ total = some 0 ∨ v.partialQ = none) ∨
      ctx = none ∧ ∃ t q, total = some t ∧ t ≠ 0 ∧ v.partialQ = some q ∧ share = some (Int.tdiv (q * 1000) t)) :
    (if ctx.isSome then none else shareOf total v) = share := by
  obtain ⟨rfl, running | rfl | rfl | unfinal⟩ | ⟨rfl, t, q, rfl, nonzero, final, rfl⟩ := h
  · exact if_pos (Option.isSome_iff_ne_none.2 running)
  · simp [shareOf]
  · unfold shareOf
    cases v.partialQ <;> simp
  · unfold shareOf
    rw [unfinal]
    cases total <;> simp
  · unfold shareOf
    rw [final]
    exact if_neg nonzero

/-! ### The obligation -/

/-- Settles O60: each read looks its item up and refuses an index without one. -/
theorem readsWithFields : Obligations.ReadsWithFields := by
  intro p s taken gives
  refine ⟨fun h => ?_, fun first => ?_, fun age => ?_, fun index => ?_⟩
  · intro st
    refine ⟨?_, ?_, fun valid => ?_, fun not_valid => ?_⟩
    · exact exec_refused (i := .ratingQuery p .outside h) rfl taken rfl
    · exact exec_answered (i := .ratingQuery p (.named .principal) h) (u := s) rfl taken rfl rfl
    · refine exec_answered (i := .ratingQuery p (.named .alternate) h) (u := s) rfl taken rfl ?_
      exact if_pos ((bankFailure_eq_none _).2 valid)
    · refine exec_refused (i := .ratingQuery p (.named .alternate) h) rfl taken ?_
      exact if_neg fun none_found => not_valid ((bankFailure_eq_none _).1 none_found)
  · refine ⟨?_, fun b beyond => ?_, fun b within => ⟨numbered first (((s.bank b).drop first).take 6), ⟨?_, fun i hi => ?_⟩, ?_⟩⟩
    · exact exec_refused (i := .readRating p .outside first) rfl taken rfl
    · exact exec_refused (i := .readRating p (.named b) first) rfl taken (if_neg (not_lt.2 beyond))
    · rw [numbered_length, List.length_take, List.length_drop]
    · have six : i < 6 := by
        rw [numbered_length, List.length_take] at hi
        omega
      rw [numbered_getElem?, List.getElem?_take, if_pos six, List.getElem?_drop]
    · have bank : (s.stamp p).bank b = s.bank b := by cases b <;> rfl
      refine exec_read (i := .readRating p (.named b) first) rfl taken ((if_pos within).trans ?_)
      rw [bank]
      rfl
  · refine ⟨fun outside => ?_, fun front after r split size within => ?_⟩
    · refine exec_refused (i := .readResult p age) rfl taken ?_
      dsimp only [readResult]
      split
      · have none_held : (s.stamp p).run.results.reverse[age]? = none := by
          rw [List.getElem?_eq_none_iff, List.length_reverse, State.stamp_run]
          omega
        rw [none_held]
      · rfl
    · refine exec_read (i := .readResult p age) rfl taken ((if_pos within).trans ?_)
      have held : (s.stamp p).run.results.reverse[age]? = some r := by
        simp [split, ← size]
      rw [held]
      rfl
  · refine ⟨fun beyond point => ?_, fun v found => ⟨fun share share_eq => ?_, fun j outside => ?_, fun pre later q split few => ?_⟩⟩
    · refine exec_refused (i := .readVertical p index point) rfl taken ?_
      have none_held : (s.stamp p).run.verticals[index]? = none := List.getElem?_eq_none beyond
      dsimp only [readVertical]
      rw [none_held]
    · refine exec_read (i := .readVertical p index none) rfl taken ?_
      refine (readVertical_whole (s := s.stamp p) found).trans ?_
      rw [State.stamp_run, share_cases share_eq]
    · exact exec_refused (i := .readVertical p index (some j)) rfl taken (readVertical_no_point (s := s.stamp p) found outside)
    · refine ⟨_, exec_read (i := .readVertical p index (some pre.length)) rfl taken
        (readVertical_point (s := s.stamp p) found split few), ?_⟩
      rw [decide_eq_true_iff]
      exact readPoint_used_iff q later

end Sys2Proof.Machine
end

section
/-! ACK and the expiries of the deadline and of the edit claim (O35). -/
namespace Sys2Proof.Machine

theorem levelOf_toNat (l : Level) : levelOf l.toNat = some l := by cases l <;> rfl

theorem levelOf_eq_none {n : Nat} (h : 3 < n) : levelOf n = none := by
  obtain ⟨k, rfl⟩ := Nat.exists_eq_add_of_le' (Nat.succ_le_of_lt h)
  rfl

/-! ### The deadline -/

/-- The deadline expiry of a record whose timer has run out (R95). -/
theorem State.deadlineExpiry_of_due {s : State} {r : AckRecord} (record : s.warning.ack = some r) (out : r.timer = 0) :
    s.deadlineExpiry = ({ s with
      warning := { s.warning with
        ack := some ⟨r.level, r.raised, (s.cfg.ack.get r.level).timeoutMin * 60, min 255 (r.overdue + 1), r.elapsed⟩ }
      outputs := { s.outputs with siren := s.outputs.siren.hand s.cfg.patterns (s.cfg.ack.get r.level).overdue } }).postAll
      ⟨.ackOverdue, s.clock.time, some (.level r.level), some (.num (min 255 (r.overdue + 1) : Nat)), some (.num r.elapsed), false⟩ := by
  unfold State.deadlineExpiry
  rw [record]
  exact if_pos out

/-! ### ACK -/

section Ack

variable {p : Port} {l : Level} {s : State}

theorem ack_nothing (record : s.warning.ack = none) : ack p l.toNat s = refuse s .nothingPending := by
  unfold ack
  rw [levelOf_toNat, record]

theorem ack_stale {r : AckRecord} (record : s.warning.ack = some r) (other : r.level ≠ l) :
    ack p l.toNat s = reply s .stale (.stale r.level) := by
  unfold ack
  rw [levelOf_toNat, record]
  exact if_neg other

theorem ack_taken {r : AckRecord} (record : s.warning.ack = some r) (level : r.level = l) :
    ack p l.toNat s = reply (({ s with
      warning := { s.warning with ack := none }
      outputs := { s.outputs with siren := s.outputs.siren.hand s.cfg.patterns (s.cfg.ack.get l).acked } }).postAll
      ⟨.acked, s.clock.time, some (.level l), some (.port p), some (.num r.overdue), false⟩) .ok
      (.acked l r.raised r.overdue) := by
  unfold ack
  rw [levelOf_toNat, record]
  exact if_pos level

end Ack

/-- Settles O35: ACK by the record and its level, each expiry by its timer. -/
theorem ackAndTimers : Obligations.AckAndTimers := by
  refine ⟨fun p s taken => ⟨fun level high => ?_, fun l record => ?_, fun l r record => ⟨fun other => ?_, fun level => ?_⟩⟩,
    fun s powered => ⟨fun r record out => ?_, fun running => ?_, fun q claim out => ?_, fun running => ?_⟩⟩
  · refine exec_refused (i := .ack p level) rfl taken ?_
    dsimp only [ack]
    rw [levelOf_eq_none high]
  · exact exec_refused (i := .ack p l.toNat) rfl taken (ack_nothing (s := s.stamp p) record)
  · exact exec_answered (i := .ack p l.toNat) (u := s) rfl taken rfl (ack_stale (s := s.stamp p) record other)
  · exact exec_posted (i := .ack p l.toNat) rfl taken rfl (ack_taken (s := s.stamp p) record level)
  · exact (event_of_powered powered _).trans (congrArg _ (State.deadlineExpiry_of_due record out))
  · refine (event_of_powered powered _).trans (congrArg _ (State.deadlineExpiry_of_running fun r record => ?_))
    rw [record] at running
    simpa using running
  · refine (event_of_powered powered _).trans (congrArg _ ((State.idleExpiry_of_due claim out).trans ?_))
    rw [RatingUnit.release, ← out]
  · exact (event_of_powered powered _).trans (congrArg _ (State.idleExpiry_of_running running))

end Sys2Proof.Machine
end

section
/-! The RATE and FLOW classes of a counted close (O18). The rate state and the flow state are two trackers of one kind: a state HIGH or
NORMAL with a count towards each change. Each is stepped by its own step of the evaluation and passed over by the other four. -/
namespace Sys2Proof.Machine

/-! ### A tracker -/

/-- The two trackers of the warning unit (R71, R73). -/
inductive Tracker where
  | rate
  | flow

/-- The state of a tracker: HIGH or NORMAL, the count towards HIGH and the count towards NORMAL. -/
structure Swing where
  state : HighNormal
  high  : Nat
  low   : Nat

namespace Tracker

/-- Where the warning unit keeps a tracker. -/
def swing (w : WarningUnit) : Tracker → Swing
  | rate => ⟨w.rateState, w.rateHigh, w.rateLow⟩
  | flow => ⟨w.flowState, w.flowHigh, w.flowLow⟩

/-- The class a tracker raises when it becomes HIGH. -/
def highClass : Tracker → TriggerClass
  | rate => .rateHigh
  | flow => .flowHigh

/-- The class a tracker raises when it becomes NORMAL. -/
def normalClass : Tracker → TriggerClass
  | rate => .rateNormal
  | flow => .flowNormal

/-- The two classes of a tracker. -/
def classes (k : Tracker) : List TriggerClass := [k.highClass, k.normalClass]

theorem highClass_ne_normalClass (k : Tracker) : k.highClass ≠ k.normalClass := by cases k <;> decide

theorem highClass_mem (k : Tracker) : k.highClass ∈ k.classes := List.mem_cons_self

theorem normalClass_mem (k : Tracker) : k.normalClass ∈ k.classes := List.mem_cons_of_mem _ List.mem_cons_self

theorem swing_takeEntry (k : Tracker) (s : State) (cls : TriggerClass) (time : Nat) :
    k.swing (s.takeEntry cls time).warning = k.swing s.warning := by
  obtain ⟨rateState, rateHigh, rateLow, flowState, flowHigh, flowLow, -⟩ := s.takeEntry_states cls time
  cases k with
  | rate => simp only [swing, rateState, rateHigh, rateLow]
  | flow => simp only [swing, flowState, flowHigh, flowLow]

end Tracker

/-! ### Steps that pass a tracker -/

/-- The classes raised so far at a minute close. -/
def Progress.classes (x : Progress) : List TriggerClass := x.raised.map Raised.cls

theorem Progress.mem_classes_raise {x : Progress} {w : WarningUnit} {c cls : TriggerClass} {time : Nat} :
    c ∈ ((x.setWarning w).raise cls time).classes ↔ c ∈ x.classes ∨ c = cls := by
  simp only [classes, raise, setWarning, List.map_append, List.map_cons, List.map_nil, List.mem_append, List.mem_singleton]

/-- A step of the evaluation leaves the settings and a tracker as they are and raises neither class of the tracker. -/
structure Passes (k : Tracker) (x y : Progress) : Prop where
  cfg : y.state.cfg = x.state.cfg
  swing : k.swing y.state.warning = k.swing x.state.warning
  raised : ∀ cls ∈ k.classes, cls ∈ y.classes ↔ cls ∈ x.classes

namespace Passes

variable {k : Tracker} {x y z : Progress}

theorem refl : Passes k x x := ⟨rfl, rfl, fun _ _ => Iff.rfl⟩

theorem trans (h : Passes k x y) (g : Passes k y z) : Passes k x z :=
  ⟨g.cfg.trans h.cfg, g.swing.trans h.swing, fun cls mem => (g.raised cls mem).trans (h.raised cls mem)⟩

theorem setWarning {w : WarningUnit} (same : k.swing w = k.swing x.state.warning) : Passes k x (x.setWarning w) :=
  ⟨rfl, same, fun _ _ => Iff.rfl⟩

theorem raise {w : WarningUnit} {cls : TriggerClass} {time : Nat} (same : k.swing w = k.swing x.state.warning)
    (foreign : cls ∉ k.classes) : Passes k x ((x.setWarning w).raise cls time) where
  cfg := State.takeEntry_cfg ..
  swing := (k.swing_takeEntry ..).trans same
  raised c mem := by
    have other : c ≠ cls := fun e => foreign (e ▸ mem)
    exact Progress.mem_classes_raise.trans (or_iff_left other)

theorem raiseIf {cond : Prop} [Decidable cond] {w v : WarningUnit} {cls : TriggerClass} {time : Nat}
    (same : k.swing w = k.swing x.state.warning) (same' : k.swing v = k.swing x.state.warning) (foreign : cls ∉ k.classes) :
    Passes k x (if cond then (x.setWarning w).raise cls time else x.setWarning v) := by
  split
  · exact raise same foreign
  · exact setWarning same'

end Passes

section Steps

variable (k : Tracker) (c : Close) (mean : Int) (x : Progress)

theorem passes_stepSensor : Passes k x (stepSensor c x) := by
  unfold stepSensor
  dsimp only
  split <;> split
  · exact .refl
  · exact .raise (by cases k <;> rfl) (by cases k <;> decide)
  · exact .raise (by cases k <;> rfl) (by cases k <;> decide)
  · exact .refl

theorem passes_stepUp : Passes k x (stepUp c mean x) := by
  unfold stepUp
  dsimp only
  split
  · exact .refl
  · exact .raiseIf (by cases k <;> rfl) (by cases k <;> rfl) (by cases k <;> decide)

theorem passes_stepDown : Passes k x (stepDown c mean x) := by
  unfold stepDown
  dsimp only
  split
  · exact .refl
  · exact .raiseIf (by cases k <;> rfl) (by cases k <;> rfl) (by cases k <;> decide)

theorem flow_passes_stepRate : Passes .flow x (stepRate c x) := by
  unfold stepRate
  dsimp only
  split
  · exact .refl
  · exact .raiseIf rfl rfl (by decide)
  · exact .raiseIf rfl rfl (by decide)

theorem rate_passes_stepFlow : Passes .rate x (stepFlow c x) := by
  unfold stepFlow
  dsimp only
  split
  · exact .refl
  · exact .raiseIf rfl rfl (by decide)
  · exact .raiseIf rfl rfl (by decide)

end Steps

/-! ### The step of a tracker -/

/-- What the step of a tracker makes of it (R71 to R74): `above` and `below` say on which side of its thresholds the value stands,
`n` is the persistence, `rises` and `falls` say whether its classes are raised. -/
structure Swings (before after : Swing) (above below : Prop) [Decidable above] [Decidable below] (n : Nat) (rises falls : Prop) :
    Prop where
  rises_iff : rises ↔ before.state = .normal ∧ above ∧ n ≤ before.high + 1
  falls_iff : falls ↔ before.state = .high ∧ below ∧ n ≤ before.low + 1
  risen : rises → after = ⟨.high, 0, 0⟩
  fallen : falls → after = ⟨.normal, 0, 0⟩
  counted_normal : before.state = .normal → ¬ rises → after = ⟨.normal, if above then before.high + 1 else 0, before.low⟩
  counted_high : before.state = .high → ¬ falls → after = ⟨.high, before.high, if below then before.low + 1 else 0⟩

namespace Swings

variable {b a : Swing} {above below : Prop} [Decidable above] [Decidable below] {n : Nat} {rises falls : Prop}

theorem of_rise (normal : b.state = .normal) (side : above) (due : n ≤ b.high + 1) (risen : a = ⟨.high, 0, 0⟩) (rose : rises)
    (unfallen : ¬ falls) : Swings b a above below n rises falls where
  rises_iff := iff_of_true rose ⟨normal, side, due⟩
  falls_iff := iff_of_false unfallen fun fell => by simp [normal] at fell
  risen _ := risen
  fallen fell := absurd fell unfallen
  counted_normal _ stayed := absurd rose stayed
  counted_high high := by simp [normal] at high

theorem of_fall (high : b.state = .high) (side : below) (due : n ≤ b.low + 1) (fallen : a = ⟨.normal, 0, 0⟩) (fell : falls)
    (unrisen : ¬ rises) : Swings b a above below n rises falls where
  rises_iff := iff_of_false unrisen fun rose => by simp [high] at rose
  falls_iff := iff_of_true fell ⟨high, side, due⟩
  risen rose := absurd rose unrisen
  fallen _ := fallen
  counted_normal normal := by simp [high] at normal
  counted_high _ stayed := absurd fell stayed

theorem of_counted_normal (normal : b.state = .normal) (early : ¬ (above ∧ n ≤ b.high + 1))
    (counted : a = ⟨.normal, if above then b.high + 1 else 0, b.low⟩) (unrisen : ¬ rises) (unfallen : ¬ falls) :
    Swings b a above below n rises falls where
  rises_iff := iff_of_false unrisen fun rose => early rose.2
  falls_iff := iff_of_false unfallen fun fell => by simp [normal] at fell
  risen rose := absurd rose unrisen
  fallen fell := absurd fell unfallen
  counted_normal _ _ := counted
  counted_high high := by simp [normal] at high

theorem of_counted_high (high : b.state = .high) (early : ¬ (below ∧ n ≤ b.low + 1))
    (counted : a = ⟨.high, b.high, if below then b.low + 1 else 0⟩) (unrisen : ¬ rises) (unfallen : ¬ falls) :
    Swings b a above below n rises falls where
  rises_iff := iff_of_false unrisen fun rose => by simp [high] at rose
  falls_iff := iff_of_false unfallen fun fell => early fell.2
  risen rose := absurd rose unrisen
  fallen fell := absurd fell unfallen
  counted_normal normal := by simp [high] at normal
  counted_high _ _ := counted

/-- The tracker after its step where it is NORMAL and does not rise. -/
theorem fields_of_normal (h : Swings b a above below n rises falls) (normal : b.state = .normal) (stayed : ¬ rises) :
    a.state = .normal ∧ a.high = (if above then b.high + 1 else 0) ∧ a.low = b.low := by
  simp [h.counted_normal normal stayed]

/-- The tracker after its step where it is HIGH and does not fall. -/
theorem fields_of_high (h : Swings b a above below n rises falls) (high : b.state = .high) (stayed : ¬ falls) :
    a.state = .high ∧ a.low = (if below then b.low + 1 else 0) ∧ a.high = b.high := by
  simp [h.counted_high high stayed]

theorem state_of_rise (h : Swings b a above below n rises falls) (rose : rises) : a.state = .high :=
  congrArg Swing.state (h.risen rose)

theorem state_of_fall (h : Swings b a above below n rises falls) (fell : falls) : a.state = .normal :=
  congrArg Swing.state (h.fallen fell)

theorem counts_of_turn (h : Swings b a above below n rises falls) : rises ∨ falls → a.high = 0 ∧ a.low = 0
  | .inl rose => by simp [h.risen rose]
  | .inr fell => by simp [h.fallen fell]

end Swings

/-- The step of a tracker, by the classes that stand raised after it. -/
abbrev SwingsTo (k : Tracker) (x y : Progress) (above below : Prop) [Decidable above] [Decidable below] (n : Nat) : Prop :=
  Swings (k.swing x.state.warning) (k.swing y.state.warning) above below n (k.highClass ∈ y.classes) (k.normalClass ∈ y.classes)

/-- A count that is due on a side is the count that the step forms when the value stands on that side. -/
theorem due_iff {side : Prop} [Decidable side] {n m : Nat} : (side ∧ n ≤ if side then m else 0) ↔ side ∧ n ≤ m :=
  and_congr_right fun h => by rw [if_pos h]

namespace SwingsTo

variable {k : Tracker} {x y : Progress} {above below : Prop} [Decidable above] [Decidable below] {n time : Nat} {w v : WarningUnit}

theorem of_normal (fresh : ∀ cls ∈ k.classes, cls ∉ x.classes) (normal : (k.swing x.state.warning).state = .normal)
    (risen : k.swing w = ⟨.high, 0, 0⟩)
    (counted : k.swing v = ⟨.normal, if above then (k.swing x.state.warning).high + 1 else 0, (k.swing x.state.warning).low⟩) :
    SwingsTo k x (if above ∧ n ≤ (if above then (k.swing x.state.warning).high + 1 else 0) then
      (x.setWarning w).raise k.highClass time else x.setWarning v) above below n := by
  have noHigh := fresh _ k.highClass_mem
  have noNormal := fresh _ k.normalClass_mem
  simp only [due_iff]
  split
  next rise =>
    refine .of_rise normal rise.1 rise.2 ((k.swing_takeEntry ..).trans risen) (Progress.mem_classes_raise.2 (.inr rfl)) fun fell => ?_
    exact (Progress.mem_classes_raise.1 fell).elim noNormal k.highClass_ne_normalClass.symm
  next early => exact .of_counted_normal normal early counted noHigh noNormal

theorem of_high (fresh : ∀ cls ∈ k.classes, cls ∉ x.classes) (high : (k.swing x.state.warning).state = .high)
    (fallen : k.swing w = ⟨.normal, 0, 0⟩)
    (counted : k.swing v = ⟨.high, (k.swing x.state.warning).high, if below then (k.swing x.state.warning).low + 1 else 0⟩) :
    SwingsTo k x (if below ∧ n ≤ (if below then (k.swing x.state.warning).low + 1 else 0) then
      (x.setWarning w).raise k.normalClass time else x.setWarning v) above below n := by
  have noHigh := fresh _ k.highClass_mem
  have noNormal := fresh _ k.normalClass_mem
  simp only [due_iff]
  split
  next fall =>
    refine .of_fall high fall.1 fall.2 ((k.swing_takeEntry ..).trans fallen) (Progress.mem_classes_raise.2 (.inr rfl)) fun rose => ?_
    exact (Progress.mem_classes_raise.1 rose).elim noHigh k.highClass_ne_normalClass
  next early => exact .of_counted_high high early counted noHigh noNormal

/-- Steps before and after that pass the tracker do not change what its step makes of it. -/
theorem between {x' y' : Progress} (h : SwingsTo k x y above below n) (before : Passes k x' x) (after : Passes k y y') :
    SwingsTo k x' y' above below n := by
  unfold SwingsTo
  rw [after.swing, ← before.swing, after.raised _ k.highClass_mem, after.raised _ k.normalClass_mem]
  exact h

end SwingsTo

section Step

variable {c : Close} {x : Progress}

/-- Step 4 at a rate r (R71, R72). -/
theorem stepRate_swings {r : Int} (rate : c.rate = some r) (fresh : ∀ cls ∈ Tracker.rate.classes, cls ∉ x.classes) :
    SwingsTo .rate x (stepRate c x) (x.state.cfg.warning.rHi ≤ r) (r ≤ x.state.cfg.warning.rLo) x.state.cfg.warning.pr := by
  unfold stepRate
  dsimp only
  rw [rate]
  cases state : x.state.warning.rateState with
  | normal => exact .of_normal fresh state rfl rfl
  | high => exact .of_high fresh state rfl rfl

/-- Step 5 at a rated discharge (R73, R74). -/
theorem stepFlow_swings {r : Rated} (rated : c.rated = some r) (fresh : ∀ cls ∈ Tracker.flow.classes, cls ∉ x.classes) :
    SwingsTo .flow x (stepFlow c x) (x.state.cfg.warning.qHi ≤ r.q) (r.q < x.state.cfg.warning.lowFlow)
      x.state.cfg.warning.pq := by
  unfold stepFlow
  dsimp only
  rw [rated]
  cases state : x.state.warning.flowState with
  | normal => exact .of_normal fresh state rfl rfl
  | high => exact .of_high fresh state rfl rfl

end Step

/-! ### The evaluation of a counted close -/

theorem stepRate_none {c : Close} {x : Progress} (rate : c.rate = none) : stepRate c x = x := by
  unfold stepRate
  rw [rate]

theorem countedSteps_of_counted {c : Close} {x : Progress} {v : Int} (mean : c.mean.value = some v) (sensor : c.sensor ≠ .lost) :
    countedSteps c x = stepFlow c (stepRate c (stepDown c v (stepUp c v x))) := by
  have counted : c.counted = true := by simp [Close.counted, mean, sensor]
  unfold countedSteps
  rw [mean]
  exact if_pos counted

/-- The first three steps of the evaluation of a counted close. -/
def State.staged (s : State) (c : Close) (v : Int) : Progress := stepDown c v (stepUp c v (stepSensor c ⟨s, []⟩))

theorem passes_staged (k : Tracker) (s : State) (c : Close) (v : Int) : Passes k ⟨s, []⟩ (s.staged c v) :=
  (passes_stepSensor ..).trans ((passes_stepUp ..).trans (passes_stepDown ..))

/-- Where every step since the start passes a tracker, neither of its classes stands raised. -/
theorem Passes.fresh {k : Tracker} {s : State} {x : Progress} (h : Passes k ⟨s, []⟩ x) : ∀ cls ∈ k.classes, cls ∉ x.classes :=
  fun cls mem raised => List.not_mem_nil ((h.raised cls mem).1 raised)

/-- The classes raised at the last minute close, as the evaluation record gives them. -/
def WarningUnit.raisedAtClose (w : WarningUnit) : List TriggerClass :=
  ((w.evaluation.map Evaluation.raised).getD []).map Raised.cls

section Evaluation

variable {s : State} {m : MinuteMean} {v : Int} {rate : Option Int} {sensor : SensorState}

theorem evaluate_eq_of_counted (mean : m.value = some v) (known : sensor ≠ .lost) :
    let c := s.closeOf m rate sensor
    let x := stepFlow c (stepRate c (s.staged c v))
    s.evaluate m rate sensor = x.state.setWarning { x.state.warning with evaluation := some ⟨c, c.counted, x.raised⟩ } := by
  have worked := countedSteps_of_counted (c := s.closeOf m rate sensor) (x := stepSensor (s.closeOf m rate sensor) ⟨s, []⟩)
    mean known
  unfold State.evaluate
  dsimp only
  rw [worked]
  rfl

/-- The evaluation of a counted close with a rate, as the rate state sees it (R71, R72). -/
theorem evaluate_rate_swings {r : Int} (mean : m.value = some v) (known : sensor ≠ .lost) :
    let t := (s.evaluate m (some r) sensor).warning
    let g := s.cfg.warning
    Swings (Tracker.rate.swing s.warning) (Tracker.rate.swing t) (g.rHi ≤ r) (r ≤ g.rLo) g.pr
      (.rateHigh ∈ t.raisedAtClose) (.rateNormal ∈ t.raisedAtClose) := by
  have staged := passes_staged .rate s (s.closeOf m (some r) sensor) v
  have step := stepRate_swings (c := s.closeOf m (some r) sensor) rfl staged.fresh
  rw [staged.cfg] at step
  rw [evaluate_eq_of_counted mean known]
  exact step.between staged (rate_passes_stepFlow ..)

/-- The evaluation of a counted close, as the flow state sees it (R48, R73, R74). -/
theorem evaluate_flow_swings (mean : m.value = some v) (known : sensor ≠ .lost) :
    let t := (s.evaluate m rate sensor).warning
    let g := s.cfg.warning
    let q := (ratedDischarge s.cfg.bank v).q
    Swings (Tracker.flow.swing s.warning) (Tracker.flow.swing t) (g.qHi ≤ q) (q < g.lowFlow) g.pq
      (.flowHigh ∈ t.raisedAtClose) (.flowNormal ∈ t.raisedAtClose) := by
  have rated : (s.closeOf m rate sensor).rated = some (ratedDischarge s.cfg.bank v) := congrArg (Option.map _) mean
  have before := (passes_staged .flow s (s.closeOf m rate sensor) v).trans
    (flow_passes_stepRate (s.closeOf m rate sensor) _)
  have step := stepFlow_swings rated before.fresh
  rw [before.cfg] at step
  rw [evaluate_eq_of_counted mean known]
  exact step.between before .refl

/-- A rate of NONE passes the rate state (R71). -/
theorem evaluate_rate_none (mean : m.value = some v) (known : sensor ≠ .lost) :
    let t := (s.evaluate m none sensor).warning
    Tracker.rate.swing t = Tracker.rate.swing s.warning ∧ .rateHigh ∉ t.raisedAtClose ∧ .rateNormal ∉ t.raisedAtClose := by
  have passed := (passes_staged .rate s (s.closeOf m none sensor) v).trans
    (rate_passes_stepFlow (s.closeOf m none sensor) _)
  have skipped : stepRate (s.closeOf m none sensor) (s.staged (s.closeOf m none sensor) v) = s.staged (s.closeOf m none sensor) v :=
    stepRate_none rfl
  rw [evaluate_eq_of_counted mean known, skipped]
  exact ⟨passed.swing, passed.fresh _ (by decide), passed.fresh _ (by decide)⟩

end Evaluation

/-- Settles O18: each tracker is stepped once and passed by the other steps. -/
theorem rateAndFlowTriggers : Obligations.RateAndFlowTriggers := by
  intro s m v rate sensor mean known
  have flow := evaluate_flow_swings (s := s) (rate := rate) mean known
  cases rate with
  | none =>
    obtain ⟨same, noHigh, noNormal⟩ := evaluate_rate_none (s := s) mean known
    exact ⟨fun _ => ⟨congrArg Swing.state same, congrArg Swing.high same, congrArg Swing.low same, noHigh, noNormal⟩,
      fun _ present => (nomatch present), flow.rises_iff, flow.falls_iff, flow.fields_of_normal, flow.fields_of_high,
      fun rose => absurd rose noHigh, fun fell => absurd fell noNormal, flow.state_of_rise, flow.state_of_fall,
      fun turned => absurd turned (not_or.2 ⟨noHigh, noNormal⟩), flow.counts_of_turn⟩
  | some r =>
    have swings := evaluate_rate_swings (s := s) (r := r) mean known
    refine ⟨fun absent => (nomatch absent), ?_, flow.rises_iff, flow.falls_iff, flow.fields_of_normal, flow.fields_of_high,
      swings.state_of_rise, swings.state_of_fall, flow.state_of_rise, flow.state_of_fall, swings.counts_of_turn,
      flow.counts_of_turn⟩
    rintro _ ⟨⟩
    exact ⟨swings.rises_iff, swings.falls_iff, swings.fields_of_normal, swings.fields_of_high⟩

end Sys2Proof.Machine
end

section
/-! READ_NOTICE, CLEAR_PORT, SET_NOTICE_MASK, ATTN and the layout of a notice (O55). -/
namespace Sys2Proof.Machine

/-! ### ATTN -/

theorem State.attn_iff {s : State} {p : Port} : s.attn p = true ↔ (s.port p).slot ≠ none ∨ (s.port p).queue ≠ [] := by
  simp [State.attn, Option.isSome_iff_ne_none]

theorem State.attn_answered (s : State) (p : Port) (time : Nat) (code : Byte) (st : Status) (b : Body) :
    (s.answered p time code st b).attn p = true := by
  rw [State.attn_iff, State.answered, State.port_setPort, if_pos rfl]
  exact .inl (Option.some_ne_none _)

/-! ### What a notice is sent as -/

/-- The flags byte holds LOST_AFTER and the presence of each parameter at its own bit (R192). -/
theorem Notice.flags_bits (n : Notice) : n.flags.getLsbD 0 = n.lostAfter ∧ n.flags.getLsbD 1 = n.p1.isSome ∧
    n.flags.getLsbD 2 = n.p2.isSome ∧ n.flags.getLsbD 3 = n.p3.isSome := by
  unfold Notice.flags
  generalize n.lostAfter = lost, n.p1.isSome = first, n.p2.isSome = second, n.p3.isSome = third
  revert lost first second third
  decide

/-- The word a notice parameter is sent as (R192). -/
def paramWord (p : Option Param) : Word32 := (p.map Param.word).getD 0

theorem paramWord_none {p : Option Param} (h : p = none) : paramWord p = 0 := by rw [h]; rfl

theorem paramWord_num {p : Option Param} {k : Int} (h : p = some (.num k)) : paramWord p = BitVec.ofInt 32 k := by rw [h]; rfl

/-! ### The requests -/

/-- The factory mask of each port admits every kind (R186). -/
theorem factory_masks_admit (p : Port) (k : NoticeKind) : admits (factorySettings.masks.get p) k = true := by
  cases p <;> cases k <;> rfl

/-- A request that is taken and answered, whose block changes its own port and no other (R180, R182). -/
theorem exec_answered_port {i : Instr} {r : Request} {s u : State} {x : PortState} {st : Status} {b : Body}
    (hr : requestOf i = some r) (h : s.takes r.port) (ports : u.ports = s.ports)
    (act : r.act false (s.stamp r.port) =
      reply (({ u with ports := (s.stamp r.port).ports } : State).setPort r.port { x with lastRequest := some s.clock.time }) st b) :
    exec i s = .next ((u.setPort r.port x).answered r.port s.clock.time r.code st b) := by
  have port : ∀ q, u.port q = s.port q := fun q => congrArg (PerPort.get · q) ports
  rw [exec_of_request hr, State.takeRequest_of_takes h, act]
  refine congrArg _ (State.answer_answered ?_ fun q => ?_)
  · rfl
  · simp only [State.port_setPort]
    split
    · rfl
    next other => exact (State.port_setPort s ..).trans ((if_neg other).trans (port q).symm)

/-- The port of a request as its block finds it. -/
theorem State.port_stamp (s : State) (p : Port) : (s.stamp p).port p = { s.port p with lastRequest := some s.clock.time } :=
  (State.port_setPort ..).trans (if_pos rfl)

/-- A run after the port p gives up its claim: one held by p is UNHELD (R138). -/
def RunContext.unheldBy (p : Port) (c : RunContext) : RunContext := if c.holder = some p then { c with holder := none } else c

/-- The rating unit after the port p gives up the edit claim: one held by p is released (R60). -/
def RatingUnit.unclaimedBy (p : Port) (r : RatingUnit) : RatingUnit :=
  if r.claim = some p then { r with claim := none, idle := 0 } else r

theorem State.unhold_eq (s : State) (p : Port) :
    s.unhold p = { s with run := { s.run with ctx := s.run.ctx.map (RunContext.unheldBy p) } } := by
  unfold State.unhold
  cases run : s.run.ctx with
  | none =>
    dsimp only [Option.map]
    rw [← run]
  | some c =>
    dsimp only [Option.map, RunContext.unheldBy]
    split
    · rfl
    · rw [← run]

theorem State.release_eq (s : State) (p : Port) :
    (if s.rating.claim = some p then { s with rating := s.rating.release } else s) =
      { s with rating := s.rating.unclaimedBy p } := by
  unfold RatingUnit.unclaimedBy
  split <;> rfl

section Requests

variable {p : Port} {s : State}

theorem readNotice_empty (empty : (s.port p).queue = []) : readNotice p s = reply s .ok (.notice 0 none) := by
  unfold readNotice
  rw [empty]

theorem readNotice_oldest {n : Notice} {rest : List Notice} (queue : (s.port p).queue = n :: rest) :
    readNotice p s = reply (s.setPort p { s.port p with queue := rest }) .ok (.notice rest.length (some n)) := by
  unfold readNotice
  rw [queue]

theorem exec_readNotice_oldest {n : Notice} {rest : List Notice} (taken : s.takes p) (queue : (s.port p).queue = n :: rest) :
    exec (.readNotice p) s = .next ((s.setPort p { s.port p with queue := rest }).answered p s.clock.time 0x01 .ok
      (.notice rest.length (some n))) := by
  have stamped : ((s.stamp p).port p).queue = n :: rest := by rw [State.port_stamp]; exact queue
  refine exec_answered_port (i := .readNotice p) (u := s) rfl taken rfl ((readNotice_oldest stamped).trans ?_)
  rw [State.port_stamp]
  rfl

theorem exec_clearPort (taken : s.takes p) : exec (.clearPort p) s = .next (({ s with
      ports := s.ports.set p { s.port p with slot := none, queue := [] }
      run := { s.run with ctx := s.run.ctx.map (RunContext.unheldBy p) }
      rating := s.rating.unclaimedBy p } : State).answered p s.clock.time 0x02 .ok .empty) := by
  refine exec_answered_port (i := .clearPort p) (x := { s.port p with slot := none, queue := [] }) (u := { s with
    run := { s.run with ctx := s.run.ctx.map (RunContext.unheldBy p) }, rating := s.rating.unclaimedBy p }) rfl taken rfl ?_
  have port := s.port_stamp p
  dsimp only [clearPort]
  rw [State.release_eq, State.unhold_eq, port]
  rfl

end Requests

/-- Settles O55: ATTN by slot and queue, the layout byte by byte, and each request by its own lemma. -/
theorem portRequests : Obligations.PortRequests := by
  refine ⟨fun p s => ⟨State.attn_iff, s.attn_answered p⟩, fun left n => ?_, fun self ports => ⟨_, _, _, _, rfl⟩,
    factory_masks_admit, fun p s taken => ?_⟩
  · obtain ⟨lost, first, second, third⟩ := n.flags_bits
    exact ⟨n.flags, BitVec.ofNat 32 n.time, paramWord n.p1, paramWord n.p2, paramWord n.p3, rfl, BitVec.toNat_ofNat .., lost, first,
      second, third, paramWord_none, paramWord_none, paramWord_none, fun k => ⟨paramWord_num, paramWord_num, paramWord_num⟩⟩
  · refine ⟨fun empty => ?_, fun n rest => exec_readNotice_oldest taken, exec_clearPort taken, fun mask =>
      ⟨fun saving => ?_, fun idle inSet => ?_, fun idle outside => ?_⟩⟩
    · exact exec_read (i := .readNotice p) rfl taken (readNotice_empty (by rw [State.port_stamp]; exact empty))
    · exact exec_busy (i := .setNoticeMask p mask) rfl rfl taken saving
    · refine exec_setting (i := .setNoticeMask p mask) rfl rfl taken idle rfl ?_
      have width : mask.setWidth 18 = BitVec.ofNat 18 mask.toNat := (BitVec.ofNat_toNat 18 mask).symm
      rw [← width]
      exact if_pos inSet
    · exact exec_setting_refused (i := .setNoticeMask p mask) rfl rfl taken idle (if_neg (Nat.not_lt.2 outside))

end Sys2Proof.Machine
end

section
/-! FORCE_LEVEL (O32) and SET_WARNING_SETTINGS (O33). -/
namespace Sys2Proof.Machine

/-! ### FORCE_LEVEL -/

theorem forceLevel_outside {p : Port} {k : Nat} {s : State} (outside : 3 < k) : forceLevel p k s = refuse s .badValue := by
  unfold forceLevel
  rw [levelOf_eq_none outside]

/-- Level patterns handed to both outputs (R80). -/
theorem State.handLevelPatterns_eq (s : State) (l : Level) :
    s.handLevelPatterns l = { s with outputs := { s.outputs with
      siren := s.outputs.siren.hand s.cfg.patterns (s.cfg.warning.siren.get l)
      beacon := s.outputs.beacon.hand s.cfg.patterns (s.cfg.warning.beacon.get l) } } := rfl

/-- What FORCE_LEVEL writes in the warning unit and in the two engines, then its posting (R77, R109). -/
theorem State.force_eq (s : State) (p : Port) (l : Level) :
    s.force p l = ({ s with
      warning := { s.warning with
        level := l, lastChange := ⟨s.clock.time, .forced⟩, ack := none, up := 0, down := 0, rateHigh := 0, rateLow := 0
        flowHigh := 0, flowLow := 0 }
      outputs := { s.outputs with
        siren := (s.outputs.siren.endTest s.cfg.patterns).hand s.cfg.patterns (s.cfg.warning.siren.get l)
        beacon := (s.outputs.beacon.endTest s.cfg.patterns).hand s.cfg.patterns (s.cfg.warning.beacon.get l) } }).postAll
      ⟨.levelForced, s.clock.time, some (.level s.warning.level), some (.level l), some (.port p), false⟩ := by
  unfold State.force
  dsimp only
  rw [State.handLevelPatterns_eq]
  rfl

theorem forceLevel_level (p : Port) (l : Level) (s : State) : forceLevel p l.toNat s = reply (s.force p l) .ok .empty := by
  unfold forceLevel
  rw [levelOf_toNat]

/-- Settles O32: a level field is read by `levelOf`, and the act of a level ends with its one posting. -/
theorem forceLevel_holds : Obligations.ForceLevel := by
  intro p s taken
  refine ⟨fun k outside => exec_refused (i := .forceLevel p k) rfl taken (forceLevel_outside outside), ?_⟩
  intro l forced
  have act := forceLevel_level p l (s.stamp p)
  rw [State.force_eq] at act
  exact exec_posted (i := .forceLevel p l.toNat) rfl taken rfl act

/-! ### SET_WARNING_SETTINGS -/

/-- The up-thresholds as they stand, or those given put in order where any is present (R64). -/
theorem newThresholds_eq (f : PerStep (Option Int)) (old : PerStep Int) :
    newThresholds f old =
      let given : PerStep Int := ⟨f.k1.getD old.k1, f.k2.getD old.k2, f.k3.getD old.k3⟩
      let present := f.k1.isSome || f.k2.isSome || f.k3.isSome
      (if present then orderThresholds given else old, present && decide (orderThresholds given ≠ given)) := by
  unfold newThresholds
  dsimp only
  cases f.k1.isSome || f.k2.isSome || f.k3.isSome <;> rfl

theorem optClampSteps_eq (lo hi : Int) (f : PerStep (Option Int)) (old : PerStep Int) :
    optClampSteps lo hi f old =
      (⟨inRangeOr lo hi f.k1 old.k1, inRangeOr lo hi f.k2 old.k2, inRangeOr lo hi f.k3 old.k3⟩,
        [f.k1, f.k2, f.k3].any (outOfRange lo hi)) := by
  simp [optClampSteps, optClamp_eq, Bool.or_assoc]

theorem optCountSteps_eq (lo hi : Int) (f : PerStep (Option Int)) (old : PerStep Nat) :
    optCountSteps lo hi f old =
      (⟨(inRangeOr lo hi f.k1 old.k1).toNat, (inRangeOr lo hi f.k2 old.k2).toNat, (inRangeOr lo hi f.k3 old.k3).toNat⟩,
        [f.k1, f.k2, f.k3].any (outOfRange lo hi)) := by
  simp [optCountSteps, optCount_eq, Bool.or_assoc]

section SetWarningSettings

variable {a : WarningArgs} {s : State}

theorem setWarningSettings_refused {l : Level} {n : Nat} (field : a.siren.get l = some n ∨ a.beacon.get l = some n)
    (above : 7 < n) (idle : s.save = none) : setWarningSettings a s = refuse s .badValue := by
  rw [setWarningSettings, unlessSaving_of_idle idle]
  dsimp only
  obtain siren | beacon := field
  · rw [optPatterns_none siren above]
  · rw [optPatterns_none beacon above]
    cases optPatterns a.siren s.cfg.warning.siren <;> rfl

theorem setWarningSettings_taken {siren beacon : PerLevel (Fin 8)} (siren_given : optPatterns a.siren s.cfg.warning.siren = some siren)
    (beacon_given : optPatterns a.beacon s.cfg.warning.beacon = some beacon) (idle : s.save = none) :
    let r := newWarningSettings a s.cfg.warning siren beacon
    setWarningSettings a s = reply { s with cfg := { s.cfg with warning := r.1 } } (okStatus r.2) (.warningSet r.1) := by
  rw [setWarningSettings, unlessSaving_of_idle idle]
  dsimp only
  rw [siren_given, beacon_given]

end SetWarningSettings

/-- Settles O33: the pattern fields decide whether the request is refused; each other field is the old value or the clamped new one. -/
theorem setWarningSettings_holds : Obligations.SetWarningSettings := by
  refine ⟨rfl, fun p a s taken => ?_⟩
  intro c nat given u1 u2 u3 anyU rHi moved badPattern
  refine ⟨exec_busy (i := .setWarningSettings p a) rfl rfl taken, fun idle bad => ?_, fun idle good => ?_⟩
  · obtain ⟨l, n, field, above⟩ := bad
    exact exec_refused (i := .setWarningSettings p a) rfl taken (setWarningSettings_refused field above idle)
  · have siren_low : ∀ l n, a.siren.get l = some n → n ≤ 7 := fun l n h => not_lt.1 fun above => good ⟨l, n, .inl h, above⟩
    have beacon_low : ∀ l n, a.beacon.get l = some n → n ≤ 7 := fun l n h => not_lt.1 fun above => good ⟨l, n, .inr h, above⟩
    obtain ⟨siren, siren_given, siren_val⟩ := optPatterns_some c.siren siren_low
    obtain ⟨beacon, beacon_given, beacon_val⟩ := optPatterns_some c.beacon beacon_low
    refine ⟨siren, beacon, fun l => ⟨siren_val l, beacon_val l⟩, ?_⟩
    intro new
    have settings : (newWarningSettings a c siren beacon).1 = new := by
      simp only [newWarningSettings, newThresholds_eq, optClampSteps_eq, optCountSteps_eq, optClamp_eq, optCount_eq]
      rfl
    have marked : (newWarningSettings a c siren beacon).2 = moved := by
      simp only [newWarningSettings, newThresholds_eq, optClampSteps_eq, optCountSteps_eq, optClamp_eq, optCount_eq, clampMarked,
        orderThresholds, List.any_cons, List.any_nil, Bool.or_false, moved, anyU, rHi, u3, u2, u1, given, isOutside]
      ac_rfl
    rw [← settings, ← marked]
    exact exec_answered (i := .setWarningSettings p a) rfl taken rfl
      (setWarningSettings_taken (s := s.stamp p) siren_given beacon_given idle)

end Sys2Proof.Machine
end

section
/-! The evaluation of a minute close (O17). Each of its steps replaces counts and states of the warning unit and takes the action entry
of at most one class; an entry asks the warning unit for the level and the pending record alone. So the part after the steps is the
part after the entries of the classes raised, taken in a row, but for those counts and states. -/
namespace Sys2Proof.Machine

/-! ### Entries taken in a row -/

/-- The action entries of some classes taken in a row at one close. -/
def State.takeAll (s : State) (time : Nat) (l : List TriggerClass) : State := l.foldl (fun a c => a.takeEntry c time) s

/-- The items of the evaluation record for the classes whose entries are taken in a row (R76). -/
def State.takings (s : State) (time : Nat) : List TriggerClass → List Raised
  | [] => []
  | c :: l => ⟨c, s.warning.level, (s.takeEntry c time).warning.level⟩ :: (s.takeEntry c time).takings time l

section InARow

variable (s : State) (time : Nat) (l l' : List TriggerClass)

theorem State.takeAll_append : s.takeAll time (l ++ l') = (s.takeAll time l).takeAll time l' := List.foldl_append

theorem State.takings_append : s.takings time (l ++ l') = s.takings time l ++ (s.takeAll time l).takings time l' := by
  induction l generalizing s with
  | nil => rfl
  | cons c l ih => exact congrArg (List.cons _) (ih _)

theorem State.takings_classes : (s.takings time l).map Raised.cls = l := by
  induction l generalizing s with
  | nil => rfl
  | cons c l ih => exact congrArg (List.cons c) (ih _)

/-- Each item holds the levels before and after its own entry (R76). -/
theorem State.takings_split {pre post : List Raised} {i : Raised} (split : s.takings time l = pre ++ i :: post) :
    i.before = (s.takeAll time (pre.map Raised.cls)).warning.level ∧
      i.after = ((s.takeAll time (pre.map Raised.cls)).takeEntry i.cls time).warning.level := by
  induction pre generalizing s l with
  | nil =>
    cases l with
    | nil => contradiction
    | cons c l =>
      obtain ⟨rfl, -⟩ := List.cons.inj split
      exact ⟨rfl, rfl⟩
  | cons j pre ih =>
    cases l with
    | nil => contradiction
    | cons c l =>
      obtain ⟨rfl, rest⟩ := List.cons.inj split
      exact ih _ _ rest

theorem State.takings_head :
    ((s.takings time l).head?.map Raised.before).getD (s.takeAll time l).warning.level = s.warning.level := by
  cases l <;> rfl

theorem State.takings_last :
    ((s.takings time l).getLast?.map Raised.after).getD s.warning.level = (s.takeAll time l).warning.level := by
  obtain rfl | ⟨l, c, rfl⟩ := l.eq_nil_or_concat'
  · rfl
  · rw [State.takings_append, State.takeAll_append, State.takings, State.takings, List.getLast?_concat]
    rfl

theorem State.takeEntry_lostAtClose (cls : TriggerClass) :
    (s.takeEntry cls time).warning.lostAtClose = s.warning.lostAtClose := by
  rw [s.takeEntry_warning_fields cls time rfl rfl]

/-- What every entry leaves as it is, entries in a row leave as it is. -/
theorem State.takeAll_keeps {α : Type} {f : State → α} (kept : ∀ s cls, f (s.takeEntry cls time) = f s) :
    f (s.takeAll time l) = f s := by
  induction l generalizing s with
  | nil => rfl
  | cons c l ih => exact (ih _).trans (kept s c)

/-- A stage count that stands at 0 is left at 0 by an entry (R63). -/
theorem State.takeEntry_zero (cls : TriggerClass) :
    (s.warning.up = 0 → (s.takeEntry cls time).warning.up = 0) ∧
      (s.warning.down = 0 → (s.takeEntry cls time).warning.down = 0) := by
  rw [s.takeEntry_warning_fields cls time rfl rfl]
  constructor <;> intro zero <;> simp [zero]

theorem State.takeAll_zero :
    (s.warning.up = 0 → (s.takeAll time l).warning.up = 0) ∧ (s.warning.down = 0 → (s.takeAll time l).warning.down = 0) := by
  induction l generalizing s with
  | nil => exact ⟨id, id⟩
  | cons c l ih =>
    obtain ⟨up, down⟩ := s.takeEntry_zero time c
    exact ⟨fun zero => (ih _).1 (up zero), fun zero => (ih _).2 (down zero)⟩

end InARow

/-! ### Parts that differ in counts and states alone -/

/-- The part `b` is `a` but for counts, states and the evaluation record of the warning unit; `counts` says that the stage counts
agree, `flag` that the lost at last close flag does. -/
structure Follows (counts flag : Prop) (a b : State) : Prop where
  rest : b = a.setWarning b.warning
  level : b.warning.level = a.warning.level
  lastChange : b.warning.lastChange = a.warning.lastChange
  ack : b.warning.ack = a.warning.ack
  counts : counts → b.warning.up = a.warning.up ∧ b.warning.down = a.warning.down
  flag : flag → b.warning.lostAtClose = a.warning.lostAtClose

namespace Follows

variable {counts flag counts' flag' : Prop} {a b c : State}

theorem refl (a : State) : Follows counts flag a a := ⟨rfl, rfl, rfl, rfl, fun _ => ⟨rfl, rfl⟩, fun _ => rfl⟩

theorem trans (h : Follows counts flag a b) (k : Follows counts flag b c) : Follows counts flag a c where
  rest := k.rest.trans (by rw [h.rest]; rfl)
  level := k.level.trans h.level
  lastChange := k.lastChange.trans h.lastChange
  ack := k.ack.trans h.ack
  counts p := ⟨(k.counts p).1.trans (h.counts p).1, (k.counts p).2.trans (h.counts p).2⟩
  flag p := (k.flag p).trans (h.flag p)

theorem mono (h : Follows counts flag a b) (weaker : counts' → counts) (weaker' : flag' → flag) : Follows counts' flag' a b where
  rest := h.rest
  level := h.level
  lastChange := h.lastChange
  ack := h.ack
  counts p := h.counts (weaker p)
  flag p := h.flag (weaker' p)

theorem cfg (h : Follows counts flag a b) : b.cfg = a.cfg := by rw [h.rest]; rfl

/-- An entry does the same on both parts (R75). -/
theorem takeEntry (h : Follows counts flag a b) (cls : TriggerClass) (time : Nat) :
    Follows counts flag (a.takeEntry cls time) (b.takeEntry cls time) := by
  have entry : b.entryOf b.warning.level cls = a.entryOf a.warning.level cls := by
    rw [State.entryOf, State.entryOf, h.cfg, h.level]
  have seconds : ∀ l, b.ackSeconds l = a.ackSeconds l := fun l => by rw [State.ackSeconds, State.ackSeconds, h.cfg]
  have left := a.takeEntry_warning_fields cls time rfl rfl
  have right := b.takeEntry_warning_fields cls time entry rfl
  constructor
  case rest =>
    have taken := a.takeEntry_setWarning b.warning cls time h.level h.ack
    rwa [← h.rest] at taken
  case level => rw [left, right, h.level]
  case lastChange => rw [left, right, h.level, h.lastChange]
  case ack => rw [left, right, h.level, h.ack, seconds]
  case counts =>
    intro p
    rw [left, right, h.level, (h.counts p).1, (h.counts p).2]
    exact ⟨rfl, rfl⟩
  case flag =>
    intro p
    rw [left, right, h.flag p]

theorem takeAll (h : Follows counts flag a b) (time : Nat) (l : List TriggerClass) :
    Follows counts flag (a.takeAll time l) (b.takeAll time l) := by
  induction l generalizing a b with
  | nil => exact h
  | cons c l ih => exact ih (h.takeEntry c time)

theorem takings (h : Follows counts flag a b) (time : Nat) (l : List TriggerClass) : b.takings time l = a.takings time l := by
  induction l generalizing a b with
  | nil => rfl
  | cons c l ih =>
    have taken := h.takeEntry c time
    rw [State.takings, State.takings, ih taken, h.level, taken.level]

end Follows

/-! ### Steps that raise classes of a list -/

/-- A stretch of the evaluation raises some of the classes `cs`, in order, and is the taking of their entries but for counts and
states (R65, R75). -/
def Progress.Reaches (counts flag : Prop) (time : Nat) (cs : List TriggerClass) (x y : Progress) : Prop :=
  ∃ l, l.Sublist cs ∧ y.raised = x.raised ++ x.state.takings time l ∧ Follows counts flag (x.state.takeAll time l) y.state

namespace Progress.Reaches

variable {counts flag counts' flag' : Prop} {time : Nat} {cs ds : List TriggerClass} {x y z : Progress} {w v : WarningUnit}

theorem refl : Reaches counts flag time cs x x := ⟨[], cs.nil_sublist, (List.append_nil _).symm, .refl _⟩

theorem trans (h : Reaches counts flag time cs x y) (k : Reaches counts flag time ds y z) :
    Reaches counts flag time (cs ++ ds) x z := by
  obtain ⟨l, sub, raised, follows⟩ := h
  obtain ⟨l', sub', raised', follows'⟩ := k
  refine ⟨l ++ l', sub.append sub', ?_, ?_⟩
  · rw [raised', raised, follows.takings, State.takings_append, List.append_assoc]
  · rw [State.takeAll_append]
    exact (follows.takeAll ..).trans follows'

theorem mono (h : Reaches counts flag time cs x y) (weaker : counts' → counts) (weaker' : flag' → flag) :
    Reaches counts' flag' time cs x y := by
  obtain ⟨l, sub, raised, follows⟩ := h
  exact ⟨l, sub, raised, follows.mono weaker weaker'⟩

theorem setWarning (same : Follows counts flag x.state (x.state.setWarning w)) : Reaches counts flag time cs x (x.setWarning w) :=
  ⟨[], cs.nil_sublist, (List.append_nil _).symm, same⟩

theorem raise {cls : TriggerClass} (same : Follows counts flag x.state (x.state.setWarning w)) (mem : cls ∈ cs) :
    Reaches counts flag time cs x ((x.setWarning w).raise cls time) := by
  refine ⟨[cls], List.singleton_sublist.2 mem, ?_, same.takeEntry cls time⟩
  rw [← same.takings]
  rfl

/-- A step that raises a class on a condition and steps its counts otherwise. -/
theorem raiseIf {cond : Prop} [Decidable cond] {cls : TriggerClass} (same : Follows counts flag x.state (x.state.setWarning w))
    (same' : Follows counts flag x.state (x.state.setWarning v)) (mem : cls ∈ cs) :
    Reaches counts flag time cs x (if cond then (x.setWarning w).raise cls time else x.setWarning v) := by
  split
  · exact raise same mem
  · exact setWarning same'

theorem cfg (h : Reaches counts flag time cs x y) : y.state.cfg = x.state.cfg := by
  obtain ⟨l, -, -, follows⟩ := h
  exact follows.cfg.trans (State.takeAll_keeps _ _ _ fun s cls => s.takeEntry_cfg cls time)

theorem lostAtClose (h : Reaches counts flag time cs x y) (kept : flag) :
    y.state.warning.lostAtClose = x.state.warning.lostAtClose := by
  obtain ⟨l, -, -, follows⟩ := h
  exact (follows.flag kept).trans
    (State.takeAll_keeps (f := fun s => s.warning.lostAtClose) _ _ _ fun s cls => s.takeEntry_lostAtClose time cls)

theorem classes_eq (h : Reaches counts flag time cs x y) :
    ∃ l, l.Sublist cs ∧ y.classes = x.classes ++ l ∧ Follows counts flag (x.state.takeAll time l) y.state := by
  obtain ⟨l, sub, raised, follows⟩ := h
  refine ⟨l, sub, ?_, follows⟩
  rw [classes, raised, List.map_append, State.takings_classes]
  rfl

/-- From the start of the evaluation of a part. -/
theorem of_start {s : State} (h : Reaches counts flag time cs ⟨s, []⟩ y) :
    y.classes.Sublist cs ∧ y.raised = s.takings time y.classes ∧ Follows counts flag (s.takeAll time y.classes) y.state := by
  obtain ⟨l, sub, raised, follows⟩ := h
  have classes : y.classes = l := (congrArg (List.map Raised.cls) raised).trans (s.takings_classes time l)
  rw [classes]
  exact ⟨sub, raised, follows⟩

/-- A class outside the list is not raised. -/
theorem mem_classes (h : Reaches counts flag time cs x y) {cls : TriggerClass} (foreign : cls ∉ cs) :
    cls ∈ y.classes ↔ cls ∈ x.classes := by
  obtain ⟨l, sub, classes, -⟩ := h.classes_eq
  rw [classes, List.mem_append, or_iff_left fun mem => foreign (sub.subset mem)]

theorem not_mem_of_start {s : State} (h : Reaches counts flag time cs ⟨s, []⟩ y) {cls : TriggerClass} (foreign : cls ∉ cs) :
    cls ∉ y.classes := fun mem => foreign (h.of_start.1.subset mem)

end Progress.Reaches

/-! ### The five steps -/

theorem Follows.setFlag (s : State) (lost : Bool) :
    Follows True False s (s.setWarning { s.warning with lostAtClose := lost }) :=
  ⟨rfl, rfl, rfl, rfl, fun _ => ⟨rfl, rfl⟩, False.elim⟩

theorem Follows.setCounts (s : State) (up down : Nat) :
    Follows False True s (s.setWarning { s.warning with up := up, down := down }) :=
  ⟨rfl, rfl, rfl, rfl, False.elim, fun _ => rfl⟩

theorem Follows.setTrackers (s : State) (rateState flowState : HighNormal) (rateHigh rateLow flowHigh flowLow : Nat) :
    Follows True True s (s.setWarning { s.warning with
      rateState := rateState, rateHigh := rateHigh, rateLow := rateLow
      flowState := flowState, flowHigh := flowHigh, flowLow := flowLow }) :=
  ⟨rfl, rfl, rfl, rfl, fun _ => ⟨rfl, rfl⟩, fun _ => rfl⟩

theorem Follows.setEvaluation (s : State) (e : Option Evaluation) :
    Follows False False s (s.setWarning { s.warning with evaluation := e }) :=
  ⟨rfl, rfl, rfl, rfl, False.elim, False.elim⟩

section Steps

variable (c : Close) (mean : Int) (x : Progress)

theorem reaches_stepSensor :
    x.Reaches True False c.mean.closeTime [.sensorLost, .sensorBack] (stepSensor c x) := by
  unfold stepSensor
  dsimp only
  split <;> split
  · exact .refl
  · exact .raise (.setFlag ..) (by decide)
  · exact .raise (.setFlag ..) (by decide)
  · exact .refl

theorem reaches_stepUp : x.Reaches False True c.mean.closeTime [.stageUp] (stepUp c mean x) := by
  unfold stepUp
  dsimp only
  split
  · exact .refl
  · exact .raiseIf (.setCounts ..) (.setCounts ..) (by decide)

theorem reaches_stepDown : x.Reaches False True c.mean.closeTime [.stageDown] (stepDown c mean x) := by
  unfold stepDown
  dsimp only
  split
  · exact .refl
  · exact .raiseIf (.setCounts ..) (.setCounts ..) (by decide)

theorem reaches_stepRate : x.Reaches True True c.mean.closeTime [.rateHigh, .rateNormal] (stepRate c x) := by
  unfold stepRate
  dsimp only
  split
  · exact .refl
  · exact .raiseIf (.setTrackers ..) (.setTrackers ..) (by decide)
  · exact .raiseIf (.setTrackers ..) (.setTrackers ..) (by decide)

theorem reaches_stepFlow : x.Reaches True True c.mean.closeTime [.flowHigh, .flowNormal] (stepFlow c x) := by
  unfold stepFlow
  dsimp only
  split
  · exact .refl
  · exact .raiseIf (.setTrackers ..) (.setTrackers ..) (by decide)
  · exact .raiseIf (.setTrackers ..) (.setTrackers ..) (by decide)

/-- The RATE and FLOW classes, in order of step. -/
def trackerClasses : List TriggerClass := [.rateHigh, .rateNormal, .flowHigh, .flowNormal]

/-- Steps 4 and 5 together. -/
theorem reaches_trackers :
    x.Reaches True True c.mean.closeTime trackerClasses (stepFlow c (stepRate c x)) :=
  (reaches_stepRate c x).trans (reaches_stepFlow c _)

theorem reaches_countedSteps :
    x.Reaches False True c.mean.closeTime (.stageUp :: .stageDown :: trackerClasses)
      (countedSteps c x) := by
  unfold countedSteps
  split
  next v _ =>
    split
    · exact (reaches_stepUp c v x).trans ((reaches_stepDown c v _).trans ((reaches_trackers c _).mono False.elim id))
    · exact .refl
  next => exact .refl

end Steps

/-! ### The sensor step -/

section Sensor

variable {c : Close} {x : Progress}

theorem stepSensor_lostAtClose : (stepSensor c x).state.warning.lostAtClose = decide (c.sensor = .lost) := by
  unfold stepSensor
  dsimp only
  split <;> split
  next lost flag => simp [lost, flag]
  next lost flag => exact (State.takeEntry_lostAtClose ..).trans (decide_eq_true lost).symm
  next known flag => exact (State.takeEntry_lostAtClose ..).trans (decide_eq_false known).symm
  next known flag => simpa [known] using flag

/-- SENSOR_LOST and SENSOR_BACK tell a change of the lost at last close flag (R66). -/
theorem stepSensor_raised (s : State) :
    (.sensorLost ∈ (stepSensor c ⟨s, []⟩).classes ↔ c.sensor = .lost ∧ s.warning.lostAtClose = false) ∧
      (.sensorBack ∈ (stepSensor c ⟨s, []⟩).classes ↔ c.sensor ≠ .lost ∧ s.warning.lostAtClose = true) := by
  have raised : ∀ w cls, (((⟨s, []⟩ : Progress).setWarning w).raise cls c.mean.closeTime).classes = [cls] := fun _ _ => rfl
  have none_raised : (⟨s, []⟩ : Progress).classes = [] := rfl
  unfold stepSensor
  dsimp only
  split <;> split
  next lost flag => simp [none_raised, lost, flag]
  next lost flag => simp [raised, lost, flag]
  next known flag => simp [raised, known, flag]
  next known flag => simp [none_raised, known, flag]

/-- The part after the sensor step of a close that is not LOST (R66). -/
theorem stepSensor_state (known : c.sensor ≠ .lost) (s : State) :
    (stepSensor c ⟨s, []⟩).state =
      if s.warning.lostAtClose then
        (s.setWarning { s.warning with lostAtClose := false }).takeEntry .sensorBack c.mean.closeTime
      else s := by
  unfold stepSensor
  dsimp only
  rw [if_neg known]
  split <;> rfl

end Sensor

/-! ### The stage steps -/

/-- A stage step: it raises its class when that is due, and steps its count otherwise. -/
structure StageStep (x y : Progress) (cls : TriggerClass) (time : Nat) (due : Prop) (raised counted : WarningUnit) : Prop where
  raised_iff : cls ∈ y.classes ↔ due
  state : y.state = if cls ∈ y.classes then (x.state.setWarning raised).takeEntry cls time else x.state.setWarning counted

namespace StageStep

variable {x y : Progress} {cls : TriggerClass} {time : Nat} {due : Prop} {raised counted : WarningUnit}

theorem up_zero (h : StageStep x y cls time due raised counted) (zero : raised.up = 0) (stands : cls ∈ y.classes ∨ counted.up = 0) :
    y.state.warning.up = 0 := by
  rw [h.state]
  split
  next => exact (State.takeEntry_zero ..).1 zero
  next unraised => exact stands.resolve_left unraised

theorem down_zero (h : StageStep x y cls time due raised counted) (zero : raised.down = 0) (raise : cls ∈ y.classes) :
    y.state.warning.down = 0 := by
  rw [h.state, if_pos raise]
  exact (State.takeEntry_zero ..).2 zero

end StageStep

/-- The common form of the two stage steps: the count towards a step goes on where the mean stands on the `side` of the step, and is
due at its persistence. -/
theorem stageStep_of_step {x y : Progress} {cls : TriggerClass} {time count : Nat} {step : Option Step} {side : Step → Prop}
    [DecidablePred side] {persistence : Step → Nat} {raised : WarningUnit} {counted : Nat → WarningUnit}
    (fresh : cls ∉ x.classes) (positive : ∀ k, 0 < persistence k) (stands : counted count = x.state.warning)
    (eq : y = step.elim x fun k =>
      if persistence k ≤ (if side k then count + 1 else 0) then (x.setWarning raised).raise cls time
      else x.setWarning (counted (if side k then count + 1 else 0))) :
    StageStep x y cls time (∃ k, step = some k ∧ side k ∧ persistence k ≤ count + 1) raised
      (counted ((step.map fun k => if side k then count + 1 else 0).getD count)) := by
  subst eq
  cases step with
  | none =>
    refine ⟨iff_of_false fresh (by simp), ?_⟩
    simp only [Option.elim_none, if_neg fresh, Option.map_none, Option.getD_none, stands]
    rfl
  | some k =>
    have due_iff : persistence k ≤ (if side k then count + 1 else 0) ↔ side k ∧ persistence k ≤ count + 1 := by
      split
      next h => simp [h]
      next h => simp [h, (positive k).ne']
    simp only [Option.elim_some, Option.some.injEq, exists_eq_left', due_iff, Option.map_some, Option.getD_some]
    by_cases due : side k ∧ persistence k ≤ count + 1
    · have mem : cls ∈ ((x.setWarning raised).raise cls time).classes := Progress.mem_classes_raise.2 (.inr rfl)
      simp only [if_pos due]
      exact ⟨iff_of_true mem due, (if_pos mem).symm⟩
    · simp only [if_neg due]
      exact ⟨iff_of_false fresh due, (if_neg fresh).symm⟩

section StageSteps

variable {c : Close} {v : Int} {x : Progress}

theorem stepUp_stageStep (fresh : .stageUp ∉ x.classes) (positive : ∀ k, 0 < x.state.cfg.warning.pu.get k) :
    let w := x.state.warning
    let g := x.state.cfg.warning
    StageStep x (stepUp c v x) .stageUp c.mean.closeTime
      (∃ k, w.level.stepUp = some k ∧ g.u.get k ≤ v ∧ g.pu.get k ≤ w.up + 1) { w with up := 0 }
      { w with up := (w.level.stepUp.map fun k => if g.u.get k ≤ v then w.up + 1 else 0).getD w.up } := by
  refine stageStep_of_step (counted := fun n => { x.state.warning with up := n }) fresh positive rfl ?_
  unfold stepUp
  dsimp only
  cases x.state.warning.level.stepUp <;> rfl

theorem stepDown_stageStep (fresh : .stageDown ∉ x.classes) (positive : ∀ k, 0 < x.state.cfg.warning.pd.get k) :
    let w := x.state.warning
    let g := x.state.cfg.warning
    StageStep x (stepDown c v x) .stageDown c.mean.closeTime
      (∃ k, w.level.stepDown = some k ∧ v < g.u.get k - g.h.get k ∧ g.pd.get k ≤ w.down + 1) { w with down := 0 }
      { w with down := (w.level.stepDown.map fun k => if v < g.u.get k - g.h.get k then w.down + 1 else 0).getD w.down } := by
  refine stageStep_of_step (counted := fun n => { x.state.warning with down := n }) fresh positive rfl ?_
  unfold stepDown
  dsimp only
  cases x.state.warning.level.stepDown <;> rfl

end StageSteps

/-! ### The evaluation as a whole -/

/-- The five steps of the evaluation of a close. -/
def State.worked (s : State) (c : Close) : Progress := countedSteps c (stepSensor c ⟨s, []⟩)

theorem State.evaluate_eq (s : State) (m : MinuteMean) (rate : Option Int) (sensor : SensorState) :
    let c := s.closeOf m rate sensor
    let x := s.worked c
    s.evaluate m rate sensor = x.state.setWarning { x.state.warning with evaluation := some ⟨c, c.counted, x.raised⟩ } := rfl

/-- The evaluation of a close after the sensor step. -/
def State.sensed (s : State) (c : Close) : Progress := stepSensor c ⟨s, []⟩

/-- The evaluation of a counted close after the sensor step and STAGE_UP. -/
def State.risen (s : State) (c : Close) (v : Int) : Progress := stepUp c v (s.sensed c)

section Worked

variable {s : State} {c : Close} {v : Int}

theorem reaches_sensed (s : State) (c : Close) :
    Progress.Reaches True False c.mean.closeTime [.sensorLost, .sensorBack] ⟨s, []⟩ (s.sensed c) := reaches_stepSensor ..

theorem reaches_risen (s : State) (c : Close) (v : Int) :
    Progress.Reaches False False c.mean.closeTime [.sensorLost, .sensorBack, .stageUp] ⟨s, []⟩ (s.risen c v) :=
  ((reaches_sensed s c).mono False.elim id).trans ((reaches_stepUp c v _).mono id False.elim)

theorem reaches_staged (s : State) (c : Close) (v : Int) :
    Progress.Reaches False False c.mean.closeTime [.sensorLost, .sensorBack, .stageUp, .stageDown] ⟨s, []⟩ (s.staged c v) :=
  (reaches_risen s c v).trans ((reaches_stepDown c v _).mono id False.elim)

theorem reaches_worked (s : State) (c : Close) :
    Progress.Reaches False False c.mean.closeTime
      [.sensorLost, .sensorBack, .stageUp, .stageDown, .rateHigh, .rateNormal, .flowHigh, .flowNormal] ⟨s, []⟩ (s.worked c) :=
  ((reaches_sensed s c).mono False.elim id).trans ((reaches_countedSteps c _).mono id False.elim)

/-- SENSOR_LOST, SENSOR_BACK and the lost at last close flag after the evaluation (R66). -/
theorem worked_sensor (s : State) (c : Close) :
    (.sensorLost ∈ (s.worked c).classes ↔ c.sensor = .lost ∧ s.warning.lostAtClose = false) ∧
      (.sensorBack ∈ (s.worked c).classes ↔ c.sensor ≠ .lost ∧ s.warning.lostAtClose = true) ∧
      (s.worked c).state.warning.lostAtClose = decide (c.sensor = .lost) := by
  have later := reaches_countedSteps c (s.sensed c)
  obtain ⟨lost, back⟩ := stepSensor_raised (c := c) s
  exact ⟨(later.mem_classes (by decide)).trans lost, (later.mem_classes (by decide)).trans back,
    (later.lostAtClose trivial).trans stepSensor_lostAtClose⟩

/-- The sensor step is all of the evaluation of a close that is not counted (R67). -/
theorem worked_of_uncounted (uncounted : c.sensor = .lost ∨ c.mean.value = none) : s.worked c = s.sensed c := by
  unfold State.worked countedSteps
  split
  next v mean =>
    have lost : c.sensor = .lost := uncounted.resolve_right (by simp [mean])
    simp [Close.counted, lost, State.sensed]
  next => rfl

/-- A close that is not counted steps neither tracker, and its stage counts are those of the entry it takes (R67). -/
theorem worked_uncounted (uncounted : c.sensor = .lost ∨ c.mean.value = none) :
    (∀ cls ∈ (s.worked c).classes, cls = .sensorLost ∨ cls = .sensorBack) ∧
      (∀ k : Tracker, k.swing (s.worked c).state.warning = k.swing s.warning) ∧
      Follows True False (s.takeAll c.mean.closeTime (s.worked c).classes) (s.worked c).state := by
  rw [worked_of_uncounted uncounted]
  obtain ⟨sub, -, follows⟩ := (reaches_sensed s c).of_start
  exact ⟨fun cls mem => by simpa using sub.subset mem, fun k => (passes_stepSensor k c _).swing, follows⟩

/-- STAGE_UP on what the sensor step left (R68). -/
theorem risen_stageStep (s : State) (c : Close) (v : Int) (positive : ∀ k, 0 < s.cfg.warning.pu.get k) :
    let w := (s.sensed c).state.warning
    let g := s.cfg.warning
    StageStep (s.sensed c) (s.risen c v) .stageUp c.mean.closeTime
      (∃ k, w.level.stepUp = some k ∧ g.u.get k ≤ v ∧ g.pu.get k ≤ w.up + 1) { w with up := 0 }
      { w with up := (w.level.stepUp.map fun k => if g.u.get k ≤ v then w.up + 1 else 0).getD w.up } := by
  have sensed := reaches_sensed s c
  have step := stepUp_stageStep (c := c) (v := v) (sensed.not_mem_of_start (by decide)) (by rw [sensed.cfg]; exact positive)
  rwa [sensed.cfg] at step

/-- STAGE_DOWN on what STAGE_UP left (R69). -/
theorem staged_stageStep (s : State) (c : Close) (v : Int) (positive : ∀ k, 0 < s.cfg.warning.pd.get k) :
    let w := (s.risen c v).state.warning
    let g := s.cfg.warning
    StageStep (s.risen c v) (s.staged c v) .stageDown c.mean.closeTime
      (∃ k, w.level.stepDown = some k ∧ v < g.u.get k - g.h.get k ∧ g.pd.get k ≤ w.down + 1) { w with down := 0 }
      { w with down := (w.level.stepDown.map fun k => if v < g.u.get k - g.h.get k then w.down + 1 else 0).getD w.down } := by
  have risen := reaches_risen s c v
  have step := stepDown_stageStep (c := c) (v := v) (risen.not_mem_of_start (by decide)) (by rw [risen.cfg]; exact positive)
  rwa [risen.cfg] at step

section Counted

variable (mean : c.mean.value = some v) (known : c.sensor ≠ .lost)

include mean known

theorem worked_of_counted : s.worked c = stepFlow c (stepRate c (s.staged c v)) := countedSteps_of_counted mean known

theorem reaches_worked_of_staged :
    Progress.Reaches True True c.mean.closeTime trackerClasses (s.staged c v) (s.worked c) := by
  rw [worked_of_counted mean known]
  exact reaches_trackers c _

theorem stageDown_worked : .stageDown ∈ (s.worked c).classes ↔ .stageDown ∈ (s.staged c v).classes :=
  (reaches_worked_of_staged mean known).mem_classes (by decide)

theorem stageUp_worked : .stageUp ∈ (s.worked c).classes ↔ .stageUp ∈ (s.risen c v).classes :=
  ((reaches_worked_of_staged mean known).mem_classes (by decide)).trans ((reaches_stepDown c v _).mem_classes (by decide))

/-- After its first three steps the evaluation is the entries of the RATE and FLOW classes raised, taken in a row. -/
theorem worked_follows_staged :
    Follows True True ((s.staged c v).state.takeAll c.mean.closeTime ((s.worked c).classes.filter
      (· ∈ trackerClasses))) (s.worked c).state := by
  obtain ⟨l, sub, classes, follows⟩ := (reaches_worked_of_staged (s := s) mean known).classes_eq
  have early : (s.staged c v).classes.filter (· ∈ trackerClasses) = [] :=
    List.filter_eq_nil_iff.2 fun cls mem => by
      have first := (reaches_staged s c v).of_start.1.subset mem
      revert first
      cases cls <;> decide
  have late : l.filter (· ∈ trackerClasses) = l :=
    List.filter_eq_self.2 fun cls mem => decide_eq_true (sub.subset mem)
  rw [classes, List.filter_append, early, late]
  exact follows

/-- A stage class raised leaves its count 0 (R68, R69). -/
theorem stage_counts_of_raised (positive : ∀ k, 0 < s.cfg.warning.pu.get k ∧ 0 < s.cfg.warning.pd.get k) :
    (.stageUp ∈ (s.worked c).classes → (s.worked c).state.warning.up = 0) ∧
      (.stageDown ∈ (s.worked c).classes → (s.worked c).state.warning.down = 0) := by
  have up := risen_stageStep s c v fun k => (positive k).1
  have down := staged_stageStep s c v fun k => (positive k).2
  have last := (worked_follows_staged (s := s) mean known).counts trivial
  refine ⟨fun rose => last.1.trans ((State.takeAll_zero ..).1 ?_), fun fell => last.2.trans ((State.takeAll_zero ..).2 ?_)⟩
  · have zero := up.up_zero rfl (.inl ((stageUp_worked mean known).1 rose))
    exact down.up_zero zero (.inr zero)
  · exact down.down_zero rfl ((stageDown_worked mean known).1 fell)

end Counted

end Worked

/-- The evaluation record holds the items of the entries taken, and the part is what they leave but for counts and states (R75,
R76). -/
theorem evaluate_follows (s : State) (m : MinuteMean) (rate : Option Int) (sensor : SensorState) :
    let x := s.worked (s.closeOf m rate sensor)
    x.raised = s.takings m.closeTime x.classes ∧
      Follows False False (s.takeAll m.closeTime x.classes) (s.evaluate m rate sensor) := by
  obtain ⟨-, raised, follows⟩ := (reaches_worked s (s.closeOf m rate sensor)).of_start
  rw [State.evaluate_eq]
  exact ⟨raised, follows.trans (.setEvaluation ..)⟩

/-- Settles O17: the entries taken by `evaluate_follows`, the sensor classes by `worked_sensor`, and the stage classes by the two stage
steps, each on what the step before it left. -/
theorem stageTriggers : Obligations.StageTriggers := by
  intro s m rate sensor w cfg t list raised take taken
  have sub := (reaches_worked s (s.closeOf m rate sensor)).of_start.1
  obtain ⟨items, follows⟩ : list = s.takings m.closeTime raised ∧ Follows False False taken t := evaluate_follows s m rate sensor
  have whole : t = { taken with warning := { t.warning with
      level := taken.warning.level, lastChange := taken.warning.lastChange, ack := taken.warning.ack } } := by
    rw [← follows.level, ← follows.lastChange, ← follows.ack]
    exact follows.rest
  refine ⟨whole, fun pre post i split => ?items, ⟨rfl, sub, ?head, ?last, fun none_raised => ?nothing⟩,
    worked_sensor s (s.closeOf m rate sensor), fun uncounted => ?uncounted, fun v mean known positive => ?counted⟩
  case items => exact s.takings_split m.closeTime raised (items.symm.trans split)
  case head =>
    rw [follows.level, items]
    exact s.takings_head m.closeTime raised
  case last =>
    rw [follows.level, items]
    exact s.takings_last m.closeTime raised
  case nothing =>
    have none_taken : taken = s := congrArg (List.foldl take s) none_raised
    rw [← none_taken]
    exact follows.rest
  case uncounted =>
    obtain ⟨classes, swings, stage⟩ := worked_uncounted (s := s) (c := s.closeOf m rate sensor) uncounted
    exact ⟨classes, congrArg Swing.state (swings .rate), congrArg Swing.high (swings .rate), congrArg Swing.low (swings .rate),
      congrArg Swing.state (swings .flow), congrArg Swing.high (swings .flow), congrArg Swing.low (swings .flow),
      stage.counts trivial⟩
  case counted =>
    intro u x y z
    have up := risen_stageStep s (s.closeOf m rate sensor) v fun k => (positive k).1
    have down := staged_stageStep s (s.closeOf m rate sensor) v fun k => (positive k).2
    have up_raised : .stageUp ∈ raised ↔ _ := stageUp_worked mean known
    have down_raised : .stageDown ∈ raised ↔ _ := stageDown_worked mean known
    have sensed : (s.sensed (s.closeOf m rate sensor)).state = u := stepSensor_state known s
    have risen : (s.risen (s.closeOf m rate sensor) v).state = x := by
      rw [up.state, sensed]
      exact if_congr up_raised.symm rfl rfl
    have staged : (s.staged (s.closeOf m rate sensor) v).state = y := by
      rw [down.state, risen]
      exact if_congr down_raised.symm rfl rfl
    have last := worked_follows_staged (s := s) (c := s.closeOf m rate sensor) mean known
    rw [staged] at last
    obtain ⟨up_zero, down_zero⟩ := stage_counts_of_raised (c := s.closeOf m rate sensor) mean known positive
    rw [← sensed, ← risen]
    exact ⟨up_raised.trans up.raised_iff, down_raised.trans down.raised_iff, up_zero, down_zero, last.level, last.counts trivial⟩

end Sys2Proof.Machine
end

section
/-! The pending acknowledgment and the two outputs (O8). The invariant asks the warning unit for the level and the pending record, and
the signal output unit for the two outputs. An action entry, a forced level and a start write all four together; a clock count, ACK, a
deadline or phase expiry and a test write some of them; every other command leaves them as they are. -/
namespace Sys2Proof.Machine

/-! ### Engines -/

theorem Engine.sound.idle : idleEngine.sound := ⟨by decide, by decide⟩

theorem Engine.sound.startOn {n : Fin 8} (pattern : n ≠ 0) (r : Pattern) : (startOn n r).sound :=
  ⟨iff_of_false nofun pattern, iff_of_true rfl rfl⟩

/-- Pattern 0 has no record (R100). -/
theorem PatternTable.ne_zero_of_get? {t : PatternTable} {n : Fin 8} {r : Pattern} (record : t.get? n.val = some r) : n ≠ 0 := by
  rintro rfl
  cases record

theorem Engine.sound.hand {e : Engine} (h : e.sound) (t : PatternTable) (n : Fin 8) : (e.hand t n).sound := by
  unfold Engine.hand
  split
  · exact h
  · split
    · exact .idle
    · exact .startOn (PatternTable.ne_zero_of_get? ‹_›) _

/-- A running engine that goes on in a phase of its pattern, with the line asserted in ON alone. -/
theorem Engine.sound.enter {e f : Engine} (h : e.sound) (running : e.phase ≠ .idle) (pattern : f.pattern = e.pattern)
    (phase : f.phase ≠ .idle) (line : f.line = true ↔ f.phase = .on) : f.sound := by
  obtain ⟨idle, -⟩ := h
  exact ⟨iff_of_false phase fun zero => running (idle.2 (pattern.symm.trans zero)), line⟩

/-- A phase expiry keeps the pattern and brings a phase with its line (R102). -/
theorem Engine.sound.expire {e : Engine} (h : e.sound) (r : Pattern) : (e.expire r).sound := by
  unfold Engine.expire
  cases phase : e.phase with
  | idle => exact h
  | on | pause => exact h.enter (by simp [phase]) rfl nofun (by simp)
  | off =>
    dsimp only
    repeat' split
    all_goals exact h.enter (by simp [phase]) rfl nofun (by simp)

/-! ### One output -/

/-- The engine of an output agrees with its pattern, and its test runs only at level NORMAL (R102, R107, R109). -/
def OutputState.Sound (o : OutputState) (l : Level) : Prop := o.engine.sound ∧ (o.test ≠ none → l = .normal)

namespace OutputState.Sound

theorem of_untested {e : Engine} (sound : e.sound) (l : Level) : OutputState.Sound ⟨e, none⟩ l :=
  ⟨sound, fun test => absurd rfl test⟩

variable {o : OutputState} {l : Level}

theorem hand (h : o.Sound l) (t : PatternTable) (n : Fin 8) : (o.hand t n).Sound l := by
  obtain ⟨engine, test⟩ := h
  unfold OutputState.hand
  split
  · exact ⟨engine.hand t n, test⟩
  · exact ⟨engine, fun _ => test (by simp [*])⟩

/-- An output whose tests are ended is sound at every level (R109). -/
theorem endTest (h : o.Sound l) (t : PatternTable) (l' : Level) : (o.endTest t).Sound l' := by
  obtain ⟨engine, -⟩ := h
  unfold OutputState.endTest
  split
  · exact ⟨engine, fun test => absurd ‹_› test⟩
  · exact .of_untested (engine.hand ..) _

/-- A test goes on or ends at a phase expiry, and none is opened (R102, R108). -/
theorem expire (h : o.Sound l) (t : PatternTable) : (o.expire t).Sound l := by
  obtain ⟨engine, test⟩ := id h
  unfold OutputState.expire
  split
  · exact h
  · rename_i r _
    have stepped := engine.expire r
    split
    · exact ⟨stepped, test⟩
    · have level : l = .normal := test (by simp [*])
      split
      · split
        · split
          · exact .of_untested stepped l
          · exact .of_untested (engine.hand ..) l
        · exact ⟨stepped, fun _ => level⟩
      · exact ⟨stepped, fun _ => level⟩

/-- The phase timer has no part in the agreement. -/
theorem pass (h : o.Sound l) (t : PatternTable) (ms : Nat) : (o.pass t ms).Sound l := by
  have timed : ∀ n, OutputState.Sound { o with engine := { o.engine with timer := n } } l := fun _ => h
  unfold OutputState.pass
  split
  · exact h
  · split
    · exact timed _
    · exact (timed 0).expire t

theorem openTest (h : o.Sound l) (t : PatternTable) (n : Fin 8) (bursts : Nat) (p : Port) : (o.openTest t n bursts p).Sound .normal := by
  obtain ⟨engine, -⟩ := h
  exact ⟨engine.hand t n, fun _ => rfl⟩

end OutputState.Sound

/-! ### What the invariant looks at -/

/-- The level, the pending record and the two outputs of a state. -/
structure Signals where
  level  : Level
  ack    : Option AckRecord
  siren  : OutputState
  beacon : OutputState

/-- The signals of a state. -/
def State.signals (s : State) : Signals := ⟨s.warning.level, s.warning.ack, s.outputs.siren, s.outputs.beacon⟩

/-- A pending record is for the level in force, and both outputs are sound at it (R93, R102, R109). -/
def Signals.Sound (x : Signals) : Prop := (∀ r, x.ack = some r → r.level = x.level) ∧ x.siren.Sound x.level ∧ x.beacon.Sound x.level

/-- What O8 asks of a state (`signalsSound_iff`). -/
def SignalsSound (s : State) : Prop := s.signals.Sound

theorem signalsSound_iff (s : State) : SignalsSound s ↔ AckForLevel s ∧ OutputsSound s := by
  unfold SignalsSound Signals.Sound OutputState.Sound State.signals AckForLevel OutputsSound
  tauto

theorem SignalsSound.of_signals {s t : State} (h : SignalsSound s) (same : t.signals = s.signals) : SignalsSound t := by
  unfold SignalsSound
  rwa [same]

theorem SignalsSound.output {s : State} (h : SignalsSound s) (out : Output) : (s.outputs.get out).Sound s.warning.level := by
  obtain ⟨-, siren, beacon⟩ := h
  cases out
  · exact siren
  · exact beacon

theorem SignalsSound.setOutput {s : State} (h : SignalsSound s) (out : Output) {o : OutputState} (sound : o.Sound s.warning.level) :
    SignalsSound { s with outputs := s.outputs.set out o } := by
  obtain ⟨ack, siren, beacon⟩ := h
  cases out
  · exact ⟨ack, sound, beacon⟩
  · exact ⟨ack, siren, sound⟩

/-! ### Notices and expiries -/

theorem State.postAll_signals (s : State) (n : Notice) : (s.postAll n).signals = s.signals := by simp [State.signals]

theorem State.postEach_signals (s : State) (ns : List Notice) : (s.postEach ns).signals = s.signals := by
  induction ns generalizing s with
  | nil => rfl
  | cons n ns ih => exact (ih _).trans (s.postAll_signals n)

theorem SignalsSound.phaseExpiry {s : State} (h : SignalsSound s) (out : Output) (ms : Nat) : SignalsSound (s.phaseExpiry out ms) :=
  h.setOutput out ((h.output out).pass ..)

theorem State.idleExpiry_signals (s : State) : s.idleExpiry.signals = s.signals := by simp [State.signals]

/-- A deadline expiry renews the record at its level and hands the overdue pattern (R95). -/
theorem SignalsSound.deadlineExpiry {s : State} (h : SignalsSound s) : SignalsSound s.deadlineExpiry := by
  obtain ⟨ack, siren, beacon⟩ := id h
  by_cases due : ∃ r, s.warning.ack = some r ∧ r.timer = 0
  · obtain ⟨r, record, out⟩ := due
    rw [State.deadlineExpiry_of_due record out]
    refine SignalsSound.of_signals ?_ (State.postAll_signals ..)
    refine ⟨fun x renewed => ?_, siren.hand .., beacon⟩
    cases renewed
    exact ack r record
  · rwa [State.deadlineExpiry_of_running fun r record => Nat.pos_of_ne_zero fun out => due ⟨r, record, out⟩]

/-! ### Action entries and the minute close -/

/-- A level field ends the tests where it changes the level (R109). -/
theorem OutputState.Sound.ended {s : State} {o : OutputState} (h : o.Sound s.warning.level) (l : Level) : (s.ended l o).Sound l := by
  unfold State.ended
  split
  · rename_i same
    rwa [same]
  · exact h.endTest ..

/-- A pattern field hands its pattern or keeps the engine (R86). -/
theorem OutputState.Sound.handField {o : OutputState} {l : Level} (h : o.Sound l) (t : PatternTable) (field : Option (Fin 8)) :
    ((field.map (o.hand t)).getD o).Sound l := by
  cases field with
  | none => exact h
  | some n => exact h.hand t n

/-- An entry opens a record for the level it leaves, or keeps the old one only where the level stands (R88). -/
theorem SignalsSound.takeEntry {s : State} (h : SignalsSound s) (cls : TriggerClass) (time : Nat) :
    SignalsSound (s.takeEntry cls time) := by
  obtain ⟨ack, siren, beacon⟩ := h
  have warning := State.takeEntry_warning_fields s cls time rfl rfl
  obtain ⟨siren_left, beacon_left⟩ := State.takeEntry_engines s cls time rfl rfl
  generalize s.entryOf s.warning.level cls = e at warning siren_left beacon_left
  generalize e.next.getD s.warning.level = l at warning siren_left beacon_left
  unfold SignalsSound State.signals
  rw [warning, siren_left, beacon_left]
  refine ⟨fun r record => ?_, (siren.ended l).handField .., (beacon.ended l).handField ..⟩
  dsimp only at record ⊢
  split at record
  · cases record
    rfl
  · split at record
    · rename_i same
      exact (ack r record).trans same.symm
    · cases record

theorem SignalsSound.takeAll {s : State} (h : SignalsSound s) (time : Nat) (l : List TriggerClass) :
    SignalsSound (s.takeAll time l) := by
  induction l generalizing s with
  | nil => exact h
  | cons c l ih => exact ih (h.takeEntry c time)

theorem Follows.signals {counts flag : Prop} {a b : State} (h : Follows counts flag a b) : b.signals = a.signals := by
  have outputs : b.outputs = a.outputs := by rw [h.rest, State.setWarning_outputs]
  unfold State.signals
  rw [h.level, h.ack, outputs]

/-- An evaluation takes entries in a row (R65, R75). -/
theorem SignalsSound.evaluate {s : State} (h : SignalsSound s) (m : MinuteMean) (rate : Option Int) (sensor : SensorState) :
    SignalsSound (s.evaluate m rate sensor) := by
  obtain ⟨-, follows⟩ := evaluate_follows s m rate sensor
  exact (h.takeAll ..).of_signals follows.signals

theorem SignalsSound.minuteClose {s : State} (h : SignalsSound s) : SignalsSound (minuteClose s) := by
  unfold Machine.minuteClose
  split
  · refine SignalsSound.evaluate (h.of_signals ?_) ..
    simp [State.signals]
  · exact h

/-! ### The clock and the cableway -/

/-- A count lowers the timer of the record and leaves its level (R93). -/
theorem SignalsSound.countAll {s : State} (h : SignalsSound s) : SignalsSound s.countAll := by
  obtain ⟨ack, outputs⟩ := h
  refine ⟨fun r counted => ?_, outputs⟩
  obtain ⟨old, record, rfl⟩ := Option.map_eq_some_iff.1 counted
  exact ack old record

theorem SignalsSound.stationClockCount {s : State} (h : SignalsSound s) : SignalsSound (stationClockCount s) := by
  have settled : SignalsSound s.settle := (h.of_signals s.idleExpiry_signals).deadlineExpiry.minuteClose
  unfold Machine.stationClockCount
  split
  · exact settled.countAll.of_signals (State.postEach_signals ..)
  · exact h

theorem State.resetClock_signals (s : State) (t : Nat) : (s.resetClock t).signals = s.signals := by simp [State.signals]

theorem exposureExpiry_signals (ms : Nat) (waits : Bool) (s : State) : (exposureExpiry ms waits s).signals = s.signals := by
  unfold exposureExpiry
  split <;> simp [State.signals]

theorem saveCompletion_signals (s : State) : (saveCompletion s).signals = s.signals := by
  unfold saveCompletion
  split <;> simp [State.signals]

/-! ### A start -/

/-- Both outputs at rest with the level patterns handed, and no record (R111, R197, R198). -/
theorem SignalsSound.of_started {s : State} {t : PatternTable} {a b : Fin 8} (ack : s.warning.ack = none)
    (siren : s.outputs.siren = OutputState.hand ⟨idleEngine, none⟩ t a)
    (beacon : s.outputs.beacon = OutputState.hand ⟨idleEngine, none⟩ t b) : SignalsSound s := by
  have rest := OutputState.Sound.of_untested Engine.sound.idle s.warning.level
  unfold SignalsSound State.signals
  rw [ack, siren, beacon]
  exact ⟨nofun, rest.hand .., rest.hand ..⟩

theorem SignalsSound.powerOn (s : State) (held : Bool) (f t d : LevelPair) : SignalsSound (powerOn held f t d s) := by
  rw [powerOn_frame]
  exact .of_started rfl rfl rfl

theorem SignalsSound.restart (s : State) (p : Port) : SignalsSound (restart p s).1 := by
  refine SignalsSound.of_signals ?_ (State.postAll_signals ..)
  exact .of_started rfl rfl rfl

/-! ### Requests that reach none of the four -/

theorem asEditor_view {α : Type} (view : State → α) (reload : ∀ s, view s.reloadIdle = view s) {f : State → Answer}
    (h : ∀ s, view (f s).1 = view s) (p : Port) (s : State) : view (asEditor p f s).1 = view s := by
  unfold asEditor
  split
  · exact (h _).trans (reload s)
  · rfl

/-- The requests that reach the level, the pending record or an output. -/
def reachesSignals (i : Instr) : Bool :=
  match i with
  | .forceLevel _ _ | .ack _ _ | .outputTest _ _ _ _ | .setClock _ _ | .restart _ => true
  | _ => false

/-- A run that is abandoned gives up the RETRIEVE line and an exposure alone (R154). -/
theorem State.abandonWork_signals (s : State) (ph : RunPhase) : (s.abandonWork ph).signals = s.signals := by cases ph <;> rfl

theorem State.endRun_signals (s : State) (c : RunContext) (r : RunResult) (way : Param) : (s.endRun c r way).signals = s.signals := by
  simp [State.signals]

/-- Every other request leaves them as they are, whatever it answers: the cases go by the checks that stand before the answer. -/
theorem request_signals {i : Instr} {r : Request} (h : requestOf i = some r) (other : reachesSignals i = false) (long : Bool)
    (s : State) : (r.act long s).1.signals = s.signals := by
  have setting : ∀ {f : State → Answer}, (∀ s, (f s).1.signals = s.signals) → (unlessSaving f s).1.signals = s.signals :=
    fun h => unlessSaving_view State.signals h s
  have editor : ∀ {f : State → Answer} (p : Port), (∀ s, (f s).1.signals = s.signals) → (asEditor p f s).1.signals = s.signals :=
    fun p h => asEditor_view State.signals (fun _ => rfl) h p s
  have holder : ∀ {f : RunContext → State → Answer} (p : Port), (∀ c s, (f c s).1.signals = s.signals) →
      (asHolder p f s).1.signals = s.signals := fun p h => asHolder_view State.signals (fun _ _ => rfl) h p s
  cases i <;> cases h
  case forceLevel | ack | outputTest | setClock | restart => cases other
  case getPortStatus | getStage | getSensing | getClock | getLogStatus | getTrend | getLogSettings | getRatingStatus | getWarning |
      getWarningSettings | getAckSettings | getOutputs | readPosition | getCounterSettings | getRun | getRunSettings | seekLog |
      setInitialPoint | surfaceMark => rfl
  -- Requests that any port may make at any time.
  case readNotice | saveSettings | readLog | advanceLog | ratingQuery | ratingBegin | ratingCancel | readRating | getAction |
      getPattern | getMeter | openRun | readResult | readVertical =>
    dsimp only [readNotice, saveSettings, readLog, advanceLog, ratingQuery, ratingBegin, ratingCancel, readRating, getAction,
      getPattern, getMeter, openRun, readResult, readVertical]
    repeat' split
    all_goals rfl
  case clearPort | takeRun =>
    dsimp only [clearPort, takeRun, reply, refuse]
    repeat' split
    all_goals simp [State.signals]
  -- Requests of the settings.
  case setFloatStage | setCounterSettings => exact setting fun _ => rfl
  case setNoticeMask | setPressStage | setLogSettings | setAction | setPattern | setRunSettings =>
    refine setting fun s => ?_
    split <;> rfl
  case setSensing | setWarningSettings | setAckSettings | setMeter =>
    refine setting fun s => ?_
    dsimp only
    repeat' split
    all_goals rfl
  -- Requests of the editor of the alternate bank.
  case ratingPoint p _ _ _ =>
    refine editor p fun s => ?_
    dsimp only
    repeat' split
    all_goals rfl
  case ratingTruncate p _ =>
    refine editor p fun s => ?_
    split <;> rfl
  case ratingCommit p =>
    refine editor p fun s => ?_
    repeat' split
    · rfl
    · rfl
    · exact State.postAll_signals ..
  -- Requests of the holder of the run.
  case markEdgeStart p _ _ _ | markBed p | startPoint p _ | stopPoint p | endVertical p _ _ | alter p _ | resumeRun p =>
    refine holder p fun c s => ?_
    repeat' split
    all_goals rfl
  case redo p _ | beginVertical p | markEdgeEnd p _ _ =>
    refine holder p fun c s => ?_
    split
    · dsimp only
      repeat' split
      all_goals rfl
    · rfl
  case accept p =>
    refine holder p fun c s => ?_
    repeat' split
    · rfl
    · exact State.postAll_signals ..
    · rfl
    · rfl
  case closeRun p =>
    refine holder p fun c s => ?_
    split
    · exact State.endRun_signals ..
    · rfl
  case abandonRun p => exact holder p fun c s => (State.endRun_signals ..).trans (State.abandonWork_signals ..)

/-! ### Requests that reach one of the four -/

/-- A forced level clears the record, ends the tests and hands the level patterns (R77, R109). -/
theorem SignalsSound.forceLevel {s : State} (h : SignalsSound s) (p : Port) (k : Nat) : SignalsSound (forceLevel p k s).1 := by
  obtain ⟨-, siren, beacon⟩ := id h
  unfold Machine.forceLevel
  split
  · exact h
  · rename_i l _
    dsimp only [reply]
    rw [State.force_eq]
    refine SignalsSound.of_signals ?_ (State.postAll_signals ..)
    exact ⟨nofun, (siren.endTest _ l).hand .., (beacon.endTest _ l).hand ..⟩

/-- ACK clears the record and hands the acknowledged pattern (R94). -/
theorem SignalsSound.ack {s : State} (h : SignalsSound s) (p : Port) (level : Nat) : SignalsSound (ack p level s).1 := by
  obtain ⟨-, siren, beacon⟩ := id h
  unfold Machine.ack
  split
  · exact h
  · exact h
  · split
    · refine SignalsSound.of_signals ?_ (State.postAll_signals ..)
      exact ⟨nofun, siren.hand .., beacon⟩
    · exact h

/-- A test is opened at level NORMAL alone (R107). -/
theorem SignalsSound.outputTest {s : State} (h : SignalsSound s) (p : Port) (out : Code Output) (pattern : Nat) (bursts : Int) :
    SignalsSound (outputTest p out pattern bursts s).1 := by
  unfold Machine.outputTest
  split
  · rename_i o n r _ _
    split
    · rename_i normal
      refine h.setOutput o ?_
      rw [normal]
      exact (h.output o).openTest ..
    · exact h
  · exact h

theorem SignalsSound.setClock {s : State} (h : SignalsSound s) (t : Nat) : SignalsSound (setClock t s).1 := by
  unfold Machine.setClock
  split
  · exact h
  · exact h.deadlineExpiry.minuteClose.of_signals (State.resetClock_signals ..)

/-! ### Every command -/

theorem SignalsSound.request {i : Instr} {r : Request} (hr : requestOf i = some r) (long : Bool) {s : State}
    (h : SignalsSound s) : SignalsSound (r.act long s).1 := by
  cases reaches : reachesSignals i with
  | false => exact h.of_signals (request_signals hr reaches long s)
  | true =>
    cases i
    case forceLevel => cases hr; exact h.forceLevel ..
    case ack => cases hr; exact h.ack ..
    case outputTest => cases hr; exact h.outputTest ..
    case setClock => cases hr; exact h.setClock _
    case restart => cases hr; exact .restart ..
    all_goals cases reaches

theorem SignalsSound.exec {i : Instr} {s t : State} (h : SignalsSound s) (e : exec i s = .next t) : SignalsSound t :=
  exec_keeps (Inv := SignalsSound)
    (stamp := fun _ _ h => h)
    (place := fun _ _ _ h => h)
    (exchange := fun _ _ _ h => h)
    (release := fun _ _ _ _ h => h)
    (request := fun _ _ long _ hr _ h => h.request hr long)
    (count := fun _ h => h.stationClockCount)
    (close := fun _ h => h.minuteClose)
    (sensing := fun _ _ _ h => h)
    (cableway := fun _ _ _ h => h)
    (meter := fun s ms h => h.of_signals (exposureExpiry_signals ms true s))
    (expose := fun s ms waits h => h.of_signals (exposureExpiry_signals ms waits s))
    (phase := fun _ out ms h => h.phaseExpiry out ms)
    (idle := fun s h => h.of_signals s.idleExpiry_signals)
    (deadline := fun _ h => h.deadlineExpiry)
    (completion := fun s h => h.of_signals (saveCompletion_signals s))
    (on := fun s held f t d _ => .powerOn s held f t d)
    (loss := fun _ h => h)
    h e

/-- Settles O8: what an entry, a forced level, ACK, an expiry, a test and a start write is sound, and every other command leaves the
level, the pending record and the outputs. -/
theorem stepKeepsWarningAndOutputs : Obligations.StepKeepsWarningAndOutputs := by
  intro s t ack outputs e
  have sound := (signalsSound_iff s).2 ⟨ack, outputs⟩
  rw [← signalsSound_iff]
  unfold step at e
  split at e
  · cases e
    exact sound
  · rename_i c rest _
    exact SignalsSound.exec (s := { s with pending := rest }) sound e

end Sys2Proof.Machine
end

section
/-! SET_ACTION, GET_ACTION and SET_ACK_SETTINGS (O34). -/
namespace Sys2Proof.Machine

/-! ### Fields of an action entry -/

/-- A field with a KEEP form reads every value back from its own number. -/
theorem optField_map {α : Type} {f : Nat → Option α} {number : α → Nat} (reads : ∀ a, f (number a) = some a) (field : Option α) :
    optField f (field.map number) = some field := by
  cases field with
  | none => rfl
  | some a => simp [optField, reads]

/-- A field that carries a value outside its set is not read. -/
theorem optField_eq_none {α : Type} {f : Nat → Option α} {field : Option Nat} {n : Nat} (given : field = some n)
    (outside : f n = none) : optField f field = none := by
  subst given
  simp [optField, outside]

theorem patternOf_val (n : Fin 8) : patternOf n.val = some n := dif_pos n.isLt

theorem patternOf_eq_none {n : Nat} (above : 7 < n) : patternOf n = none := dif_neg (Nat.not_lt.2 above)

/-- The fields of a request that carry an entry as it is (R84, R92). -/
def ActionEntry.fields (e : ActionEntry) : ActionArgs :=
  ⟨e.next.map Level.toNat, e.siren.map Fin.val, e.beacon.map Fin.val, e.interval.map Interval.minutes, .named e.notice, .named e.ack,
    .named e.retrieve⟩

theorem actionOf_fields (e : ActionEntry) : actionOf e.fields = some e := by
  unfold actionOf ActionEntry.fields
  dsimp only
  rw [optField_map levelOf_toNat, optField_map patternOf_val, optField_map patternOf_val, optField_map intervalOf_minutes]

/-- Each field of a request that gives an entry is read as the entry's own. -/
theorem actionOf_eq_some {a : ActionArgs} {e : ActionEntry} (given : actionOf a = some e) :
    optField levelOf a.next = some e.next ∧ optField patternOf a.siren = some e.siren ∧
      optField patternOf a.beacon = some e.beacon ∧ optField intervalOf a.interval = some e.interval ∧
      a.notice = .named e.notice ∧ a.ack = .named e.ack ∧ a.retrieve = .named e.retrieve := by
  unfold actionOf at given
  split at given
  · cases given
    exact ⟨‹_›, ‹_›, ‹_›, ‹_›, ‹_›, ‹_›, ‹_›⟩
  · cases given

/-- A field of SET_ACTION carries a value outside its set (R92, R189). -/
def ActionFieldOutside (a : ActionArgs) : Prop :=
  (∃ n, a.next = some n ∧ 3 < n) ∨ (∃ n, (a.siren = some n ∨ a.beacon = some n) ∧ 7 < n) ∨
    (∃ n, a.interval = some n ∧ n ∉ [1, 2, 5, 10, 15, 30, 60]) ∨ a.notice = .outside ∨ a.ack = .outside ∨ a.retrieve = .outside

/-- A field outside its set gives no entry: in a request that gives one, each field was read. -/
theorem actionOf_eq_none {a : ActionArgs} (h : ActionFieldOutside a) : actionOf a = none := by
  cases given : actionOf a with
  | none => rfl
  | some e =>
    obtain ⟨next, siren, beacon, interval, notice, ack, retrieve⟩ := actionOf_eq_some given
    obtain ⟨n, field, above⟩ | ⟨n, field | field, above⟩ | ⟨n, field, unlisted⟩ | field | field | field := h
    · cases next.symm.trans (optField_eq_none field (levelOf_eq_none above))
    · cases siren.symm.trans (optField_eq_none field (patternOf_eq_none above))
    · cases beacon.symm.trans (optField_eq_none field (patternOf_eq_none above))
    · cases interval.symm.trans (optField_eq_none field (intervalOf_eq_none unlisted))
    · cases notice.symm.trans field
    · cases ack.symm.trans field
    · cases retrieve.symm.trans field

/-! ### The action table -/

section ActionTable

variable {s : State} {level : Nat} {cls : Code TriggerClass}

theorem setAction_taken (idle : s.save = none) (l : Level) (c : TriggerClass) (e : ActionEntry) :
    setAction l.toNat (.named c) e.fields s = reply (s.setEntry l c e) .ok (.action e) := by
  rw [setAction, unlessSaving_of_idle idle, levelOf_toNat, actionOf_fields]

theorem setAction_refused {a : ActionArgs} (idle : s.save = none) (outside : 3 < level ∨ cls = .outside ∨ ActionFieldOutside a) :
    setAction level cls a s = refuse s .badValue := by
  rw [setAction, unlessSaving_of_idle idle]
  obtain above | rfl | field := outside
  · rw [levelOf_eq_none above]
  · cases levelOf level <;> rfl
  · rw [actionOf_eq_none field]
    cases levelOf level <;> cases cls <;> rfl

theorem getAction_taken (s : State) (l : Level) (c : TriggerClass) :
    getAction l.toNat (.named c) s = reply s .ok (.action ((s.cfg.actions.get l).get c)) := by
  unfold getAction
  rw [levelOf_toNat]
  rfl

theorem getAction_refused (s : State) (outside : 3 < level ∨ cls = .outside) : getAction level cls s = refuse s .badValue := by
  unfold getAction
  obtain above | rfl := outside
  · rw [levelOf_eq_none above]
  · cases levelOf level <;> rfl

end ActionTable

/-! ### The acknowledgment settings -/

theorem ackSettingOf_eq (timeout : Option Int) (old : AckSetting) (acked overdue : Fin 8) :
    ackSettingOf timeout old acked overdue =
      (⟨(inRangeOr 1 60 timeout old.timeoutMin).toNat, acked, overdue⟩, outOfRange 1 60 timeout) := by
  simp only [ackSettingOf, optCount_eq]

/-- The acknowledgment settings with the timeout fields applied over those in force and the patterns as given (R98). -/
def newAckSettings (a : AckArgs) (old : PerLevel AckSetting) (acked overdue : PerLevel (Fin 8)) : PerLevel AckSetting :=
  let one := fun l : Level =>
    (⟨(inRangeOr 1 60 (a.timeout.get l) (old.get l).timeoutMin).toNat, acked.get l, overdue.get l⟩ : AckSetting)
  ⟨one .normal, one .watch, one .warning, one .danger⟩

theorem newAckSettings_get (a : AckArgs) (old : PerLevel AckSetting) (acked overdue : PerLevel (Fin 8)) (l : Level) :
    (newAckSettings a old acked overdue).get l =
      ⟨(inRangeOr 1 60 (a.timeout.get l) (old.get l).timeoutMin).toNat, acked.get l, overdue.get l⟩ := by
  cases l <;> rfl

theorem ackedPatterns_get (t : PerLevel AckSetting) (l : Level) : (ackedPatterns t).get l = (t.get l).acked := by cases l <;> rfl

theorem overduePatterns_get (t : PerLevel AckSetting) (l : Level) : (overduePatterns t).get l = (t.get l).overdue := by
  cases l <;> rfl

section AckSettings

variable {a : AckArgs} {s : State}

theorem setAckSettings_refused {l : Level} {n : Nat} (field : a.acked.get l = some n ∨ a.overdue.get l = some n) (above : 7 < n)
    (idle : s.save = none) : setAckSettings a s = refuse s .badValue := by
  rw [setAckSettings, unlessSaving_of_idle idle]
  dsimp only
  obtain acked | overdue := field
  · rw [optPatterns_none acked above]
  · rw [optPatterns_none overdue above]
    cases optPatterns a.acked (ackedPatterns s.cfg.ack) <;> rfl

theorem setAckSettings_taken {acked overdue : PerLevel (Fin 8)}
    (acked_given : optPatterns a.acked (ackedPatterns s.cfg.ack) = some acked)
    (overdue_given : optPatterns a.overdue (overduePatterns s.cfg.ack) = some overdue) (idle : s.save = none) :
    let t := newAckSettings a s.cfg.ack acked overdue
    setAckSettings a s = reply { s with cfg := { s.cfg with ack := t } }
      (okStatus ([a.timeout.l0, a.timeout.l1, a.timeout.l2, a.timeout.l3].any (outOfRange 1 60))) (.ackSettings t) := by
  rw [setAckSettings, unlessSaving_of_idle idle]
  dsimp only
  rw [acked_given, overdue_given]
  simp only [ackSettingOf_eq, List.any_cons, List.any_nil, Bool.or_false, Bool.or_assoc]
  rfl

end AckSettings

/-- Settles O34: an entry is read back from its own fields, a field outside its set gives none, and the acknowledgment settings are
formed level by level. -/
theorem actionAndAckSettings : Obligations.ActionAndAckSettings := by
  refine ⟨⟨rfl, rfl⟩, fun p s taken => ⟨fun level cls a b saving => ⟨?_, ?_⟩, fun l cls e idle => ?_, fun level cls a idle outside => ?_,
    fun l cls => ?_, fun level cls outside => ?_, fun a idle => ⟨fun bad => ?_, fun good => ?_⟩⟩⟩
  · exact exec_busy (i := .setAction p level cls a) rfl rfl taken saving
  · exact exec_busy (i := .setAckSettings p b) rfl rfl taken saving
  · exact exec_answered (i := .setAction p l.toNat (.named cls) e.fields) (u := s.setEntry l cls e) rfl taken rfl
      (setAction_taken (s := s.stamp p) idle l cls e)
  · exact exec_refused (i := .setAction p level cls a) rfl taken (setAction_refused (s := s.stamp p) idle outside)
  · exact exec_answered (i := .getAction p l.toNat (.named cls)) (u := s) rfl taken rfl (getAction_taken (s.stamp p) l cls)
  · exact exec_refused (i := .getAction p level cls) rfl taken (getAction_refused (s.stamp p) outside)
  · obtain ⟨l, n, field, above⟩ := bad
    exact exec_refused (i := .setAckSettings p a) rfl taken (setAckSettings_refused (s := s.stamp p) field above idle)
  · have acked_low : ∀ l n, a.acked.get l = some n → n ≤ 7 := fun l n h => not_lt.1 fun above => good ⟨l, n, .inl h, above⟩
    have overdue_low : ∀ l n, a.overdue.get l = some n → n ≤ 7 := fun l n h => not_lt.1 fun above => good ⟨l, n, .inr h, above⟩
    obtain ⟨acked, acked_given, acked_val⟩ := optPatterns_some (ackedPatterns s.cfg.ack) acked_low
    obtain ⟨overdue, overdue_given, overdue_val⟩ := optPatterns_some (overduePatterns s.cfg.ack) overdue_low
    refine ⟨newAckSettings a s.cfg.ack acked overdue, fun l => ?_, ?_⟩
    · rw [newAckSettings_get, acked_val, overdue_val, ackedPatterns_get, overduePatterns_get]
      exact ⟨rfl, rfl, rfl⟩
    · exact exec_answered (i := .setAckSettings p a) rfl taken rfl
        (setAckSettings_taken (s := s.stamp p) acked_given overdue_given idle)

end Sys2Proof.Machine
end

section
/-! The signal output unit: a pattern handed to an engine and OUTPUT_TEST (O36), and the phase expiry (O38). -/
namespace Sys2Proof.Machine

/-! ### A pattern handed to an engine -/

/-- The numbers 1 to 7 and no others have a pattern record (R100). -/
theorem PatternTable.get?_eq_none_iff (t : PatternTable) (number : Nat) : t.get? number = none ↔ number = 0 ∨ 7 < number := by
  match number with
  | 0 | 1 | 2 | 3 | 4 | 5 | 6 | 7 => simp [PatternTable.get?]
  | k + 8 => exact iff_of_true rfl (.inr (by omega))

/-- A number handed to an engine that runs another pattern starts the pattern's record at ON (R103). -/
theorem Engine.hand_of_record {e : Engine} {t : PatternTable} {n : Fin 8} {r : Pattern} (record : t.get? n.val = some r) :
    e.hand t n = if n = e.pattern then e else ⟨n, .on, r.onMs, 1, true⟩ := by
  unfold Engine.hand
  rw [record]
  rfl

/-- The three cases of R103. -/
theorem Engine.hand_eq (e : Engine) (t : PatternTable) (n : Fin 8) : e.hand t n =
    if n = e.pattern then e else if n = 0 then ⟨0, .idle, 0, 0, false⟩
    else ⟨n, .on, ((t.get? n.val).map Pattern.onMs).getD 0, 1, true⟩ := by
  cases record : t.get? n.val with
  | some r => rw [Engine.hand_of_record record, if_neg (PatternTable.ne_zero_of_get? record)]; rfl
  | none =>
    have zero : n = 0 := by
      have outside := (t.get?_eq_none_iff n.val).1 record
      omega
    unfold Engine.hand
    rw [record, if_pos zero]
    rfl

/-! ### OUTPUT_TEST -/

section OutputTest

variable {p : Port} {pattern : Nat} {bursts : Int} {s : State}

theorem outputTest_outside {out : Code Output} (outside : out = .outside ∨ pattern = 0 ∨ 7 < pattern) :
    outputTest p out pattern bursts s = refuse s .badValue := by
  unfold outputTest
  obtain rfl | unlisted := outside
  · rfl
  · rw [(s.cfg.patterns.get?_eq_none_iff pattern).2 unlisted]
    cases out <;> cases patternOf pattern <;> rfl

variable {out : Output} {n : Fin 8} {r : Pattern} (number : n.val = pattern) (record : s.cfg.patterns.get? pattern = some r)

include number record

theorem outputTest_high (high : s.warning.level ≠ .normal) :
    outputTest p (.named out) pattern bursts s = refuse s .levelTooHigh := by
  subst number
  unfold outputTest
  rw [patternOf_val, record]
  exact if_neg high

theorem outputTest_taken (normal : s.warning.level = .normal) :
    let b := (clamp 1 15 bursts).toNat
    let o := s.outputs.get out
    let saved : Fin 8 := (o.test.map OutputTest.saved).getD o.engine.pattern
    let engine : Engine := if n = o.engine.pattern then o.engine else ⟨n, .on, r.onMs, 1, true⟩
    outputTest p (.named out) pattern bursts s =
      reply { s with outputs := s.outputs.set out ⟨engine, some ⟨n, b, saved, p⟩⟩ }
        (if isOutside 1 15 bursts then .okClamped else .ok) (.testStarted saved (testDuration r b)) := by
  subst number
  intro b o saved engine
  have handed : o.engine.hand s.cfg.patterns n = engine := Engine.hand_of_record record
  have saves : o.savedPattern = saved := by
    unfold OutputState.savedPattern
    cases test : o.test <;> simp [saved, test]
  unfold outputTest
  rw [patternOf_val, record]
  refine (if_pos normal).trans ?_
  rw [← handed, ← saves]
  rfl

end OutputTest

/-- Settles O36: the three cases of a number handed, the output with and without a test, and the checks of OUTPUT_TEST in order. -/
theorem outputTestRequest : Obligations.OutputTestRequest := by
  refine ⟨Engine.hand_eq, fun o t n => ⟨fun test => ?_, fun x test => ?_⟩, fun p pattern bursts s taken => ⟨fun out outside => ?_,
    fun out n r number record => ⟨fun high => ?_, fun normal => ?_⟩⟩⟩
  · obtain ⟨engine, running⟩ := o
    obtain rfl : running = none := test
    exact ⟨rfl, rfl⟩
  · obtain ⟨engine, running⟩ := o
    obtain rfl : running = some x := test
    exact ⟨rfl, rfl⟩
  · exact exec_refused (i := .outputTest p out pattern bursts) rfl taken (outputTest_outside outside)
  · exact exec_refused (i := .outputTest p (.named out) pattern bursts) rfl taken (outputTest_high (s := s.stamp p) number record high)
  · exact exec_answered (i := .outputTest p (.named out) pattern bursts) rfl taken rfl
      (outputTest_taken (s := s.stamp p) number record normal)

/-! ### The phase expiry of an engine -/

/-- The table of R102 for an engine that is not in IDLE. -/
theorem Engine.expire_eq {e : Engine} (running : e.phase ≠ .idle) (r : Pattern) :
    let on := fun n : Nat => (⟨e.pattern, .on, r.onMs, n, true⟩ : Engine)
    e.expire r =
      if e.phase = .on then ⟨e.pattern, .off, r.offMs, e.count, false⟩
      else if e.phase = .pause then on 1
      else if r.burst = 0 then on e.count
      else if e.count < r.burst then on (e.count + 1)
      else if r.pauseMs = 0 then on 1
      else ⟨e.pattern, .pause, r.pauseMs, 0, false⟩ := by
  obtain ⟨pattern, phase, timer, count, line⟩ := e
  cases phase with
  | idle => exact absurd rfl running
  | on | pause => rfl
  | off =>
    have pause : (0 < r.pauseMs) = ¬ r.pauseMs = 0 := propext Nat.pos_iff_ne_zero
    simp only [Engine.expire, pause, ite_not, reduceCtorEq, if_false]

/-- The phase timer plays no part in handing a pattern other than the running one (R103). -/
theorem Engine.hand_timer {e : Engine} {n : Fin 8} (other : n ≠ e.pattern) (timer : Nat) (t : PatternTable) :
    ({ e with timer := timer } : Engine).hand t n = e.hand t n := by
  unfold Engine.hand
  rw [if_neg other, if_neg other]

/-! ### The phase expiry of an output -/

namespace OutputState

/-- An output whose phase timer has run out. -/
def timedOut (o : OutputState) : OutputState := { o with engine := { o.engine with timer := 0 } }

variable {o : OutputState} {t : PatternTable} {ms : Nat}

theorem pass_idle (idle : o.engine.phase = .idle) : o.pass t ms = o := if_pos idle

theorem pass_early (running : o.engine.phase ≠ .idle) (early : ms < o.engine.timer) :
    o.pass t ms = { o with engine := { o.engine with timer := o.engine.timer - ms } } :=
  (if_neg running).trans (if_pos early)

theorem pass_due (running : o.engine.phase ≠ .idle) (due : o.engine.timer ≤ ms) :
    o.pass t ms = o.timedOut.expire t :=
  (if_neg running).trans (if_neg (not_lt.2 due))

variable {r : Pattern} (record : t.get? o.engine.pattern.val = some r)

include record

theorem expire_untested (test : o.test = none) : o.expire t = ⟨o.engine.expire r, none⟩ := by
  unfold OutputState.expire
  rw [record, test]

/-- A test under which no burst ends goes on as it is (R108). -/
theorem expire_uncounted {x : OutputTest} (test : o.test = some x)
    (uncounted : ¬ (o.engine.phase = .off ∧ (r.burst = 0 ∨ r.burst ≤ o.engine.count))) :
    o.expire t = ⟨o.engine.expire r, some x⟩ := by
  unfold OutputState.expire
  rw [record, test]
  exact if_neg (mt of_decide_eq_true uncounted)

/-- A burst that ends under a test lowers the bursts left, and the last one ends the test (R108, log 19). -/
theorem expire_counted {x : OutputTest} (test : o.test = some x)
    (counted : o.engine.phase = .off ∧ (r.burst = 0 ∨ r.burst ≤ o.engine.count)) :
    o.expire t =
      if x.bursts ≤ 1 then
        if x.saved = o.engine.pattern then ⟨o.engine.expire r, none⟩ else ⟨o.engine.hand t x.saved, none⟩
      else ⟨o.engine.expire r, some { x with bursts := x.bursts - 1 }⟩ := by
  unfold OutputState.expire
  rw [record, test]
  exact if_pos (decide_eq_true counted)

end OutputState

/-- Settles O38: the timer decides whether the phase expires, the table of R102 gives the next phase, and the test counts its bursts. -/
theorem phaseExpiry : Obligations.PhaseExpiry := by
  intro out ms s powered o e becomes
  have becomes_of {x : OutputState} (pass : o.pass s.cfg.patterns ms = x) : becomes x := by
    subst pass
    exact event_of_powered powered fun t => t.phaseExpiry out ms
  refine ⟨fun idle => ?_, fun running early => ?_, fun running due r record => ?_⟩
  · exact becomes_of (OutputState.pass_idle idle)
  · exact becomes_of (OutputState.pass_early running early)
  · intro on next counted
    have steps : o.timedOut.engine.expire r = next := Engine.expire_eq (e := o.timedOut.engine) running r
    have expires {x : OutputState} (expire : o.timedOut.expire s.cfg.patterns = x) : becomes x :=
      becomes_of ((OutputState.pass_due running due).trans expire)
    refine ⟨fun test => expires ?_, fun x test => ⟨fun uncounted => expires ?_, fun burst more => expires ?_,
      fun burst last other => expires ?_, fun burst last same => expires ?_⟩⟩
    · rw [OutputState.expire_untested (o := o.timedOut) record test, steps]
    · rw [OutputState.expire_uncounted (o := o.timedOut) record test uncounted, steps]
    · rw [OutputState.expire_counted (o := o.timedOut) record test burst, if_neg (not_le.2 more), steps]
    · rw [OutputState.expire_counted (o := o.timedOut) record test burst, if_pos last]
      exact (if_neg other).trans (congrArg (OutputState.mk · none) (Engine.hand_timer other 0 _))
    · rw [OutputState.expire_counted (o := o.timedOut) record test burst, if_pos last, steps]
      exact if_pos same

end Sys2Proof.Machine
end

section
/-! SET_PATTERN, GET_PATTERN, SET_METER and GET_METER (O37). -/
namespace Sys2Proof.Machine

/-! ### The pattern table -/

/-- A record written to a number of the table stands there, and every other record stays (R101). -/
theorem PatternTable.get?_set (t : PatternTable) {number : Nat} (low : 1 ≤ number) (high : number ≤ 7) (r : Pattern) (k : Nat) :
    (t.set number r).get? k = if k = number then some r else t.get? k := by
  match k with
  | 0 | 1 | 2 | 3 | 4 | 5 | 6 | 7 => interval_cases number <;> rfl
  | k + 8 =>
    rw [if_neg (by omega)]
    interval_cases number <;> rfl

section Pattern

variable {number : Nat} {s : State}

theorem setPattern_refused {onMs offMs burst pauseMs : Int} (idle : s.save = none) (outside : number = 0 ∨ 7 < number) :
    setPattern number onMs offMs burst pauseMs s = refuse s .badValue := by
  rw [setPattern, unlessSaving_of_idle idle, (PatternTable.get?_eq_none_iff ..).2 outside]

theorem setPattern_taken {onMs offMs burst pauseMs : Int} (idle : s.save = none) (low : 1 ≤ number) (high : number ≤ 7) :
    let tens := fun (lo hi v : Int) => roundDiv (clamp lo hi v) 100 * 100
    let r : Pattern := ⟨(tens 100 10000 onMs).toNat, (tens 100 10000 offMs).toNat, (clamp 0 15 burst).toNat,
      (tens 0 60000 pauseMs).toNat⟩
    setPattern number onMs offMs burst pauseMs s =
      reply { s with cfg := { s.cfg with patterns := s.cfg.patterns.set number r } }
        (if decide (tens 100 10000 onMs ≠ onMs) || decide (tens 100 10000 offMs ≠ offMs) || isOutside 0 15 burst ||
          decide (tens 0 60000 pauseMs ≠ pauseMs) then .okClamped else .ok) (.pattern r) := by
  have listed : s.cfg.patterns.get? number ≠ none := fun unlisted => by
    have outside := (PatternTable.get?_eq_none_iff ..).1 unlisted
    omega
  obtain ⟨old, record⟩ := Option.ne_none_iff_exists'.1 listed
  rw [setPattern, unlessSaving_of_idle idle, record]
  rfl

theorem getPattern_taken {r : Pattern} (record : s.cfg.patterns.get? number = some r) :
    getPattern number s = reply s .ok (.pattern r) := by
  unfold getPattern
  rw [record]

theorem getPattern_refused (outside : number = 0 ∨ 7 < number) : getPattern number s = refuse s .badValue := by
  unfold getPattern
  rw [(PatternTable.get?_eq_none_iff ..).2 outside]

end Pattern

/-! ### The segments of a meter record -/

theorem meterOf_eq_none_iff (index : Nat) : meterOf index = none ↔ index = 0 ∨ 4 < index := by
  match index with
  | 0 | 1 | 2 | 3 | 4 => simp [meterOf]
  | k + 5 => exact iff_of_true rfl (.inr (by omega))

/-- The segments of a request: bounded ones, each with its bound, a and b_c, and an unbounded last one (R121). -/
def segmentFields (front : List (Int × Int × Int)) (a bc : Int) : List SegmentArg :=
  front.map (fun x => ⟨some x.1, x.2.1, x.2.2⟩) ++ [⟨none, a, bc⟩]

/-- The segments of a record with each field brought into its range (R121). -/
def clampedSegments (front : List (Int × Int × Int)) (a bc : Int) : List MeterSegment :=
  front.map (fun x => ⟨some (clamp 1 1000000 x.1), clamp 0 999 x.2.1, clamp 1 200000 x.2.2⟩) ++
    [⟨none, clamp 0 999 a, clamp 1 200000 bc⟩]

/-- A field of the segments lies outside its range. -/
def segmentsMoved (front : List (Int × Int × Int)) (a bc : Int) : Bool :=
  isOutside 0 999 a || isOutside 1 200000 bc || front.any (fun x =>
    isOutside 1 1000000 x.1 || isOutside 0 999 x.2.1 || isOutside 1 200000 x.2.2)

theorem segmentFields_ne_nil (front : List (Int × Int × Int)) (a bc : Int) :
    ∃ x rest, segmentFields front a bc = x :: rest := List.exists_cons_of_ne_nil (by simp [segmentFields])

theorem meterSegments_cons (x y : SegmentArg) (rest : List SegmentArg) :
    meterSegments (x :: y :: rest) =
      (⟨some (clamp 1 1000000 (x.bound.getD 1000000)), clamp 0 999 x.a, clamp 1 200000 x.bc⟩ :: (meterSegments (y :: rest)).1,
        isOutside 0 999 x.a || isOutside 1 200000 x.bc || isOutside 1 1000000 (x.bound.getD 1000000) ||
          (meterSegments (y :: rest)).2) := rfl

/-- Each segment is clamped field by field, and the answer tells whether a field was (R121). -/
theorem meterSegments_fields (front : List (Int × Int × Int)) (a bc : Int) :
    meterSegments (segmentFields front a bc) = (clampedSegments front a bc, segmentsMoved front a bc) := by
  induction front with
  | nil => simp [segmentFields, clampedSegments, segmentsMoved, meterSegments, clampMarked, isOutside]
  | cons x front ih =>
    obtain ⟨y, rest, tail⟩ := segmentFields_ne_nil front a bc
    have fields : segmentFields (x :: front) a bc = ⟨some x.1, x.2.1, x.2.2⟩ :: y :: rest := congrArg (_ :: ·) tail
    rw [fields, meterSegments_cons, ← tail, ih]
    refine Prod.ext rfl ?_
    simp only [segmentsMoved, List.any_cons, Option.getD_some]
    ac_rfl

/-- The bounds of a record ascend when each lies below the next, the last segment having none (R120, R121). -/
theorem boundsAscend_clamped (front : List (Int × Int × Int)) (a bc : Int) :
    boundsAscend (clampedSegments front a bc) = decide ((front.map (fun x => clamp 1 1000000 x.1)).Pairwise (· < ·)) := by
  rw [← Bool.coe_iff_coe, decide_eq_true_iff, ← List.isChain_iff_pairwise]
  induction front with
  | nil => simp [clampedSegments, boundsAscend]
  | cons x front ih =>
    cases front with
    | nil => simp [clampedSegments, boundsAscend]
    | cons y front =>
      have first : boundsAscend (clampedSegments (x :: y :: front) a bc) =
          (decide (clamp 1 1000000 x.1 < clamp 1 1000000 y.1) && boundsAscend (clampedSegments (y :: front) a bc)) := rfl
      rw [first, Bool.and_eq_true, decide_eq_true_iff, ih]
      exact List.isChain_cons_cons.symm

/-! ### The meter table -/

section Meter

variable {index : Nat} {c : Int} {s : State}

theorem setMeter_refused {count : Nat} {segs : List SegmentArg} (idle : s.save = none)
    (bad : meterOf index = none ∨ count = 0 ∨ 3 < count) : setMeter index c count segs s = refuse s .badValue := by
  rw [setMeter, unlessSaving_of_idle idle]
  cases number : meterOf index with
  | none => rfl
  | some m =>
    have counted : count = 0 ∨ 3 < count := bad.resolve_left (by simp [number])
    exact if_neg (by omega)

variable {m : MeterNo} {front : List (Int × Int × Int)} {a bc : Int} (number : meterOf index = some m) (few : front.length ≤ 2)

include number few

/-- SET_METER with segments as R121 forms them, up to the check of their bounds. -/
theorem setMeter_fields (idle : s.save = none) :
    let new : Meter := ⟨clamp 1 10 c, clampedSegments front a bc⟩
    setMeter index c (segmentFields front a bc).length (segmentFields front a bc) s =
      if (front.map (fun x => clamp 1 1000000 x.1)).Pairwise (· < ·) then
        reply { s with cfg := { s.cfg with meters := s.cfg.meters.set m new } }
          (okStatus (isOutside 1 10 c || segmentsMoved front a bc)) (.meter new)
      else refuse s .badValue := by
  have length : (segmentFields front a bc).length = front.length + 1 := by simp [segmentFields]
  rw [setMeter, unlessSaving_of_idle idle, number]
  dsimp only
  rw [if_pos ⟨by omega, by omega, rfl⟩, meterSegments_fields, boundsAscend_clamped]
  simp only [decide_eq_true_eq]
  rfl

end Meter

theorem getMeter_refused {index : Nat} {s : State} (number : meterOf index = none) : getMeter index s = refuse s .badValue := by
  unfold getMeter
  rw [number]

theorem getMeter_taken {index : Nat} {s : State} {m : MeterNo} (number : meterOf index = some m) :
    getMeter index s = reply s .ok (.meter (s.cfg.meters.get m)) := by
  unfold getMeter
  rw [number]

/-- Settles O37: a record is written where its number stands in the table, and the bounds of the clamped segments decide for a meter. -/
theorem patternAndMeterTables : Obligations.PatternAndMeterTables := by
  refine ⟨⟨rfl, rfl⟩, fun p s taken => ⟨?busy, ?setPattern, ?getPattern, ?setMeter, ?getMeter⟩⟩
  case busy =>
    intro number onMs offMs burst pauseMs index c count segs saving
    exact ⟨exec_busy (i := .setPattern p number onMs offMs burst pauseMs) rfl rfl taken saving,
      exec_busy (i := .setMeter p index c count segs) rfl rfl taken saving⟩
  case setPattern =>
    intro number onMs offMs burst pauseMs idle tens r
    refine ⟨fun outside => ?_, fun low high => ⟨s.cfg.patterns.set number r, ⟨?_, fun k other => ?_⟩, ?_⟩⟩
    · exact exec_refused (i := .setPattern p number onMs offMs burst pauseMs) rfl taken (setPattern_refused (s := s.stamp p) idle outside)
    · rw [PatternTable.get?_set _ low high, if_pos rfl]
    · rw [PatternTable.get?_set _ low high, if_neg other]
    · exact exec_answered (i := .setPattern p number onMs offMs burst pauseMs) rfl taken rfl
        (setPattern_taken (s := s.stamp p) idle low high)
  case getPattern =>
    refine fun number => ⟨fun r record => ?_, fun outside => ?_⟩
    · exact exec_read (i := .getPattern p number) rfl taken (getPattern_taken (s := s.stamp p) record)
    · exact exec_refused (i := .getPattern p number) rfl taken (getPattern_refused outside)
  case setMeter =>
    intro index c segs idle refused
    refine ⟨fun count bad => ?_, fun m front a bc number few fields => ?_⟩
    · exact exec_refused (i := .setMeter p index c count segs) rfl taken (setMeter_refused (s := s.stamp p) idle bad)
    · subst fields
      intro bounds new moved
      have act := setMeter_fields (c := c) (a := a) (bc := bc) (s := s.stamp p) number few idle
      refine ⟨fun unordered => ?_, fun ordered => ?_⟩
      · exact exec_refused (i := .setMeter p index c _ _) rfl taken (act.trans (if_neg unordered))
      · have marked : (isOutside 1 10 c || segmentsMoved front a bc) = moved := by
          simp only [moved, segmentsMoved, Bool.or_assoc]
        rw [← marked]
        exact exec_answered (i := .setMeter p index c _ _)
          (u := { s with cfg := { s.cfg with meters := s.cfg.meters.set m new } }) rfl taken rfl (act.trans (if_pos ordered))
  case getMeter =>
    refine fun index => ⟨meterOf_eq_none_iff index, fun number => ?_, fun m number => ?_⟩
    · exact exec_refused (i := .getMeter p index) rfl taken (getMeter_refused number)
    · exact exec_read (i := .getMeter p index) rfl taken (getMeter_taken (s := s.stamp p) number)

end Sys2Proof.Machine
end

section
/-! The retrieve request (O20), the end of a run (O51), and RESUME_RUN, the run settings and GET_RUN (O52). -/
namespace Sys2Proof.Machine

/-! ### The run state -/

theorem State.runState_of_ctx {s : State} {c : RunContext} (ctx : s.run.ctx = some c) : s.runState = c.phase.state := by
  unfold State.runState
  rw [ctx]

theorem State.runState_idle {s : State} (ctx : s.run.ctx = none) : s.runState = .idle := by
  unfold State.runState
  rw [ctx]

/-- A request of the holder acts on the run with its quiet count at 0 (R136). -/
theorem asHolder_of_holds {s : State} {p : Port} {c : RunContext} (holds : s.holds p c) (f : RunContext → State → Answer) :
    asHolder p f s = f (c.heard s.clock.time) (s.setCtx (c.heard s.clock.time)) := by
  obtain ⟨ctx, holder⟩ := holds
  unfold asHolder
  rw [ctx]
  exact if_pos holder

/-! ### The retrieve request -/

/-- The record of RETRIEVE for a run in a phase (R155). -/
def RunContext.retrieveNotice (c : RunContext) (time : Nat) (entered : Option RunState) : Notice :=
  ⟨.retrieve, time, some (.num c.number), some (.run c.phase.state), entered.map Param.run, false⟩

theorem State.postRetrieve_eq (s : State) (c : RunContext) (time : Nat) (entered : Option RunState) :
    s.postRetrieve c time entered = s.postHolder c (c.retrieveNotice time entered) := by
  unfold State.postRetrieve State.postHolder
  cases c.holder <;> rfl

/-- The point result of an exposure that is cut: DISCARDED below 15,000 ms (R125, R129). -/
theorem pointResult_cut (meters : MeterTable) (x : Exposure) (t : Nat) :
    let speed := pointSpeed (meters.get x.meter) x.pulses t
    pointResult meters x t true true =
      if t < 15000 then ⟨x.meter, x.startTime, x.depth, t, x.pulses, none, none, none, ⟨true, true, false, true⟩⟩
      else ⟨x.meter, x.startTime, x.depth, t, x.pulses, speed.nm, speed.segment, speed.velocity, ⟨true, false, speed.clamped, true⟩⟩ := by
  intro speed
  by_cases brief : t < 15000
  · rw [if_pos brief]
    exact if_pos ⟨rfl, brief⟩
  · rw [if_neg brief]
    exact if_neg (not_and_of_not_right _ brief)

section Retrieve

variable {s : State} {time : Nat}

theorem State.retrieve_idle (ctx : s.run.ctx = none) : s.retrieve time = s := by
  unfold State.retrieve
  rw [ctx]

variable {c : RunContext} (ctx : s.run.ctx = some c)

include ctx

theorem State.retrieve_told (phase : c.phase = .opened ∨ c.phase = .finished ∨ ∃ r, c.phase = .retrieving r) :
    s.retrieve time = s.postHolder c (c.retrieveNotice time none) := by
  rw [← State.postRetrieve_eq]
  unfold State.retrieve
  rw [ctx]
  dsimp only
  obtain phase | phase | ⟨r, phase⟩ := phase <;> rw [phase]

theorem State.retrieve_rest {r : Rest} (phase : c.phase = .rest r) :
    s.retrieve time = (s.enterRetrieving c r).postHolder c (c.retrieveNotice time (some r.state)) := by
  rw [← State.postRetrieve_eq]
  unfold State.retrieve
  rw [ctx]
  dsimp only
  rw [phase]

theorem State.retrieve_exposing {v : Vertical} {f : Fraction} {x : Exposure} (phase : c.phase = .exposing v f)
    (running : s.cableway.exposure = some x) :
    let cut := pointResult s.cfg.meters x x.elapsed true true
    s.retrieve time = ((s.endExposure cut).enterRetrieving c (.points (v.addPoint (s.newPoint x cut f)))).postHolder c
      (c.retrieveNotice time (some .points)) := by
  intro cut
  rw [← State.postRetrieve_eq]
  unfold State.retrieve
  rw [ctx]
  dsimp only
  rw [phase]
  dsimp only
  rw [running]

end Retrieve

/-- Settles O20: the run state decides what a retrieve request does, and an exposure is cut before RETRIEVING is entered. -/
theorem retrieveRequest : Obligations.RetrieveRequest := by
  intro s time
  refine ⟨State.retrieve_idle, fun c ctx => ?_⟩
  intro told entering
  have told_eq : ∀ entered, c.retrieveNotice time entered = told entered := fun entered => by
    simp only [told, RunContext.retrieveNotice, State.runState_of_ctx ctx]
  refine ⟨fun phase => ?_, fun r phase => ?_, fun v f x phase running => ?_⟩
  · rw [State.retrieve_told ctx phase, told_eq]
  · rw [State.retrieve_rest ctx phase, told_eq]
    rfl
  · rw [State.retrieve_exposing ctx phase running, told_eq, pointResult_cut]
    rfl

/-! ### The results of a run -/

theorem joinResults_eq (ring : List RunResult) (r : RunResult) :
    joinResults ring r = if ring.length < 8 then ring ++ [r] else ring.tail ++ [r] := by
  unfold joinResults
  rw [List.drop_one]
  rfl

/-- The mean velocity of a run with its mark: 0 without an area, and 9,999 mm/s at the most (R167). -/
theorem runMeanVelocity_eq (q a : Int) :
    runMeanVelocity q a = ⟨if a = 0 then 0 else min (roundDiv (q * 1000) a) 9999,
      decide (a ≠ 0) && decide (9999 < roundDiv (q * 1000) a)⟩ := by
  unfold runMeanVelocity
  by_cases empty : a = 0
  · simp [empty]
  · by_cases high : 9999 < roundDiv (q * 1000) a
    · simp [empty, high, min_eq_right high.le]
    · simp [empty, high, min_eq_left (not_lt.1 high)]

/-- The stage of a reading that may be absent. -/
theorem stageReading_mm (x : Option StageReading) : (x.map StageReading.mm).getD 0 = (x.bind StageReading.value).getD 0 := by
  cases x <;> rfl

/-- The shift from the rated discharge in per-mille, absent when that discharge is 0 (R169). -/
theorem shiftOf_mm (q rated : Int) : (shiftOf q rated).map Marked.mm =
    if rated = 0 then none else some (clamp (-999) 999 (roundDiv ((q - rated * 1000) * 1000) (rated * 1000))) := by
  unfold shiftOf
  split <;> rfl

theorem shiftOf_clamped (q rated : Int) : ((shiftOf q rated).map Marked.clamped).getD false =
    (decide (rated ≠ 0) && isOutside (-999) 999 (roundDiv ((q - rated * 1000) * 1000) (rated * 1000))) := by
  unfold shiftOf
  by_cases unrated : rated = 0
  · simp [unrated]
  · simp [unrated, clampMarked, isOutside]

/-- The end of a run with its result: the context is gone, the result joins the ring, and RUN_CLOSED is posted (R153, R154, R170). -/
theorem State.endRun_eq (s : State) (c : RunContext) (r : RunResult) (way : Param) :
    s.endRun c r way = ({ s with run := { s.run with
      ctx := none
      listTotal := if s.run.verticals = [] then none else some r.q
      results := if s.run.results.length < 8 then s.run.results ++ [r] else s.run.results.tail ++ [r] } }).postAll
      ⟨.runClosed, s.clock.time, some (.num c.number), some way, some (.num s.run.verticals.length), false⟩ := by
  rw [← joinResults_eq]
  rfl

/-! ### CLOSE_RUN and ABANDON_RUN -/

/-- An abandoned run discards an exposure when it is EXPOSING and releases RETRIEVE when it is RETRIEVING (R154). -/
theorem State.abandonWork_eq (s : State) (ph : RunPhase) : s.abandonWork ph = { s with
    cableway := if ph.state = .exposing then { s.cableway with exposure := none } else s.cableway
    outputs := if ph.state = .retrieving then { s.outputs with retrieve := false } else s.outputs } := by
  cases ph with
  | rest r => cases r <;> rfl
  | opened | exposing | retrieving | finished => rfl

section Closing

variable {p : Port} {s : State} {c : RunContext}

theorem closeRun_finished (holds : s.holds p c) (finished : c.phase = .finished) :
    closeRun p s = reply ((s.setCtx (c.heard s.clock.time)).endRun (c.heard s.clock.time)
      (closedResult (s.setCtx (c.heard s.clock.time)) (c.heard s.clock.time)) .closed) .ok
      (.result (closedResult (s.setCtx (c.heard s.clock.time)) (c.heard s.clock.time))) := by
  have phase : (c.heard s.clock.time).phase = .finished := finished
  unfold closeRun
  rw [asHolder_of_holds holds, phase]

theorem abandonRun_holder (holds : s.holds p c) :
    abandonRun p s = reply (((s.setCtx (c.heard s.clock.time)).abandonWork c.phase).endRun (c.heard s.clock.time)
      (abandonedResult (s.setCtx (c.heard s.clock.time)) (c.heard s.clock.time)) .abandoned) .ok .empty :=
  asHolder_of_holds holds _

end Closing

/-- Settles O51: both requests end the run with its result, which CLOSE_RUN computes from the list. -/
theorem closeAndAbandon : Obligations.CloseAndAbandon := by
  intro p s c taken holds vs join ended
  have heard : (s.stamp p).holds p c := holds
  obtain ⟨ctx, -⟩ := holds
  refine ⟨?close, ?abandon⟩
  case close =>
    intro finished q a raw stageOf gh rated shift r
    have result : closedResult ((s.stamp p).setCtx (c.heard s.clock.time)) (c.heard s.clock.time) = r := by
      simp only [closedResult, gaugeHeight, runMeanVelocity_eq, shiftOf_mm, shiftOf_clamped, stageReading_mm]
      rfl
    have act := closeRun_finished heard finished
    rw [State.stamp_clock, result, State.endRun_eq] at act
    exact exec_posted (i := .closeRun p) (u := { s with run := { s.run with
      ctx := none, listTotal := if vs = [] then none else some r.q, results := join r } }) rfl taken rfl act
  case abandon =>
    intro r
    rw [State.runState_of_ctx ctx]
    intro released
    have act := abandonRun_holder heard
    rw [State.abandonWork_eq, State.endRun_eq] at act
    exact exec_posted (i := .abandonRun p) (u := { released with run := { s.run with
      ctx := none, listTotal := if vs = [] then none else some r.q, results := join r } }) rfl taken rfl act

/-! ### RESUME_RUN -/

/-- RESUME_RUN in RETRIEVING, by the level in force and the stop level (R156). -/
theorem resumeRun_retrieving {p : Port} {s : State} {c : RunContext} {r : Rest} (holds : s.holds p c)
    (phase : c.phase = .retrieving r) :
    resumeRun p s = if s.cfg.stopLevel.toNat ≤ s.warning.level.toNat then refuse (s.setCtx (c.heard s.clock.time)) .levelTooHigh
      else reply { s.setCtx { c.heard s.clock.time with phase := .rest r } with outputs := { s.outputs with retrieve := false } } .ok
        (.resumed r.state) := by
  have heard : (c.heard s.clock.time).phase = .retrieving r := phase
  unfold resumeRun
  rw [asHolder_of_holds holds, heard]
  rfl

/-! ### The run settings and GET_RUN -/

theorem stepOf_toNat (k : UpStep) : stepOf k.toNat = some k := by cases k <;> rfl

theorem stepOf_eq_none {n : Nat} (outside : n = 0 ∨ 3 < n) : stepOf n = none := by
  match n with
  | 0 => rfl
  | 1 | 2 | 3 => omega
  | k + 4 => rfl

/-- What GET_RUN tells of the vertical under work follows from the context (R158). -/
theorem runReport_eq {s : State} {ctx : Option RunContext} {work : Option Vertical} {state : RunState} (context : s.run.ctx = ctx)
    (worked : ctx.bind (fun c => c.phase.work) = work) (stands : s.runState = state) :
    runReport s = ⟨state, ctx, work, work.map Vertical.complete, s.run.verticals.length,
      (s.run.verticals.getLast?).map (fun v => (v.index, v.station.mm)), s.run.counter, s.cfg.stopLevel⟩ := by
  subst context worked stands
  rfl

/-- Settles O52: the stop level decides RESUME_RUN, and the phase of the run gives the state and the vertical of GET_RUN. -/
theorem resumeStopLevelAndGetRun : Obligations.ResumeStopLevelAndGetRun := by
  refine ⟨rfl, fun p s taken => ⟨fun c r holds phase => ?resume, fun n saving => ?busy, fun n idle outside => ?outside, ?getSettings,
    fun k idle => ?set, fun ctx work state context stands => ?getRun⟩⟩
  case resume =>
    have act := resumeRun_retrieving (s := s.stamp p) holds phase
    refine ⟨fun high => ?_, fun low => ?_⟩
    · exact exec_answered (i := .resumeRun p) (u := s.setCtx (c.heard s.clock.time)) rfl taken rfl (act.trans (if_pos high))
    · exact exec_answered (i := .resumeRun p)
        (u := { s.setCtx { c.heard s.clock.time with phase := .rest r } with outputs := { s.outputs with retrieve := false } }) rfl taken
        rfl (act.trans (if_neg (not_le.2 low)))
  case busy => exact exec_busy (i := .setRunSettings p n) rfl rfl taken saving
  case outside =>
    refine exec_setting_refused (i := .setRunSettings p n) rfl rfl taken idle ?_
    rw [stepOf_eq_none outside]
  case getSettings => exact exec_read (i := .getRunSettings p) rfl taken rfl
  case set =>
    refine exec_setting (i := .setRunSettings p k.toNat) (u := { s with cfg := { s.cfg with stopLevel := k } }) rfl rfl taken idle rfl ?_
    rw [stepOf_toNat]
    rfl
  case getRun =>
    have reported (worked : ctx.bind (fun c => c.phase.work) = work) (runs : (s.stamp p).runState = state) :=
      exec_read (i := .getRun p) rfl taken
        (congrArg (fun r => reply (s.stamp p) .ok (.run r)) (runReport_eq (s := s.stamp p) context worked runs))
    obtain ⟨rfl, rfl, rfl⟩ | ⟨c, rfl, phases⟩ := stands
    · exact reported rfl (State.runState_idle context)
    · have runs : (s.stamp p).runState = c.phase.state := State.runState_of_ctx context
      obtain ⟨phase, rfl, rfl⟩ | ⟨phase, rfl, rfl⟩ | ⟨phase, rfl, rfl⟩ | ⟨v, phase, rfl, rfl⟩ | ⟨v, phase, rfl, rfl⟩ |
        ⟨v, phase, rfl, rfl⟩ | ⟨v, f, phase, rfl, rfl⟩ | ⟨r, phase, rfl, rfl⟩ := phases
      all_goals
        rw [phase] at runs
        exact reported (congrArg RunPhase.work phase) runs

end Sys2Proof.Machine
end

section
/-! The position requests (O40), and METER_CLOSURE with EXPOSURE_EXPIRY (O39). -/
namespace Sys2Proof.Machine

/-! ### Position -/

/-- The depth is clamped at both ends, and only the upper end marks it (R116). -/
theorem depthFrom_eq (count sMark pitchNm : Int) :
    let raw := scaled count pitchNm - sMark
    depthFrom count sMark pitchNm = ⟨clamp 0 30000 raw, decide (30000 < raw)⟩ := by
  intro raw
  by_cases below : raw < 0
  · refine (if_pos below).trans ?_
    rw [clamp, max_eq_left (by omega), decide_eq_false (by omega)]
  · exact (if_neg below).trans (congrArg (Marked.mk _) (decide_eq_decide.2 (or_iff_right below)))

/-- The depth now (R116). -/
theorem State.depth_eq (s : State) :
    let raw := roundDiv (s.cableway.sounding.count * s.cfg.counters.soundingPitchNm) 1000000 - s.cableway.sMark
    s.depth = ⟨clamp 0 30000 raw, decide (30000 < raw)⟩ := depthFrom_eq ..

theorem readPosition_eq (s : State) :
    let down := roundDiv (s.cableway.sounding.count * s.cfg.counters.soundingPitchNm) 1000000
    readPosition s = reply s .ok (.position
      ⟨s.station, s.cableway.traverse.count, s.cableway.ipOffset, s.cableway.traverse.fault,
        ⟨clamp 0 30000 (down - s.cableway.sMark), decide (30000 < down - s.cableway.sMark)⟩,
        s.cableway.sounding.count, s.cableway.sMark, s.cableway.sounding.fault, s.cableway.spin,
        s.cableway.exposure.map Exposure.report, s.cableway.lastPoint⟩) := by
  unfold readPosition positionReport
  rw [State.depth_eq]

/-- Settles O40: each request is taken, and the depth is the one form of R116. -/
theorem positionRequests : Obligations.PositionRequests := by
  intro p v s taken w at' down offset
  refine ⟨?initialPoint, ?surfaceMark, ?read⟩
  case initialPoint =>
    exact exec_answered (i := .setInitialPoint p v) (u := { s with
      cableway := { w with ipOffset := offset, traverse := { w.traverse with fault := none } } }) rfl taken rfl rfl
  case surfaceMark =>
    exact exec_answered (i := .surfaceMark p) (u := { s with cableway := { w with
      sMark := clamp (-2000000000) 2000000000 down, sounding := { w.sounding with fault := none } } }) rfl taken rfl rfl
  case read => exact exec_read (i := .readPosition p) rfl taken (readPosition_eq (s.stamp p))

/-! ### Closures -/

/-- A closure is counted when none was counted before or the dead time has passed since (R119). -/
theorem Cableway.counts_eq (c : Cableway) (deadMs : Nat) :
    c.counts deadMs = (c.lastClosure.map (fun l => decide (deadMs ≤ c.now - l))).getD true := by
  unfold Cableway.counts
  cases c.lastClosure <;> rfl

section Closure

variable {s t : State} {ms : Nat} (expiry : exposureExpiry ms true s = t)

include expiry

/-- A closure that is counted, after the expiry that came before it (R119). -/
theorem meterClosure_counted (counts : t.cableway.counts t.cfg.counters.deadMs = true) :
    meterClosure ms s = { t with cableway := { t.cableway with
      lastClosure := some t.cableway.now, spin := (t.cableway.spin + 1) % 4294967296
      exposure := t.cableway.exposure.map (fun x => { x with pulses := x.pulses + 1 }) } } := by
  subst expiry
  exact congrArg (fun w => { exposureExpiry ms true s with cableway := w }) (if_pos counts)

theorem meterClosure_ignored (ignored : t.cableway.counts t.cfg.counters.deadMs = false) : meterClosure ms s = t := by
  subst expiry
  exact congrArg (fun w => { exposureExpiry ms true s with cableway := w }) (if_neg (ne_true_of_eq_false ignored))

end Closure

/-! ### The end of an exposure -/

/-- A RUNNING exposure expires once it is past T, and at T where the expiry does not wait (R124, log 5). -/
theorem Cableway.expiresIn_iff (c : Cableway) (ms : Nat) (waits : Bool) :
    c.expiresIn ms waits = true ↔
      ∃ x, c.exposure = some x ∧ (x.target < x.elapsed + ms ∨ (x.target = x.elapsed + ms ∧ waits = false)) := by
  unfold Cableway.expiresIn
  cases c.exposure with
  | none => simp
  | some x => simp [and_comm]

/-- An exposure that has not expired only grows older (R119, R123). -/
theorem exposureExpiry_early {s : State} {ms : Nat} {waits : Bool} (early : ∀ x, s.cableway.exposure = some x →
    ¬ (x.target < x.elapsed + ms ∨ (x.target = x.elapsed + ms ∧ waits = false))) : exposureExpiry ms waits s = s.passMs ms :=
  if_neg fun expires => by
    obtain ⟨x, running, due⟩ := (Cableway.expiresIn_iff ..).1 expires
    exact early x running due

/-- The point result of an exposure that reached T (R124). -/
theorem pointResult_whole (meters : MeterTable) (x : Exposure) (t : Nat) :
    let speed := pointSpeed (meters.get x.meter) x.pulses t
    pointResult meters x t false false =
      ⟨x.meter, x.startTime, x.depth, t, x.pulses, speed.nm, speed.segment, speed.velocity, ⟨false, false, speed.clamped, false⟩⟩ :=
  if_neg (not_and_of_not_left _ Bool.false_ne_true)

/-- A run EXPOSING gets the point of its exposure at the expiry (R124, R146). -/
theorem State.expireExposure_exposing {s : State} {c : RunContext} {v : Vertical} {f : Fraction} {x : Exposure}
    (ctx : s.run.ctx = some c) (phase : c.phase = .exposing v f) (running : s.cableway.exposure = some x) :
    let r := pointResult s.cfg.meters x x.target false false
    s.expireExposure = (s.endExposure r).setPhase c (.rest (.points (v.addPoint (s.newPoint x r f)))) := by
  intro r
  unfold State.expireExposure
  rw [running]
  dsimp only
  rw [ctx]
  dsimp only
  rw [phase]

theorem exposureExpiry_due {s : State} {ms : Nat} {waits : Bool} {c : RunContext} {v : Vertical} {f : Fraction} {x : Exposure}
    (ctx : s.run.ctx = some c) (phase : c.phase = .exposing v f) (running : s.cableway.exposure = some x)
    (due : x.target < x.elapsed + ms ∨ (x.target = x.elapsed + ms ∧ waits = false)) :
    let r := pointResult s.cfg.meters x x.target false false
    exposureExpiry ms waits s =
      ((s.passMs ms).endExposure r).setPhase c (.rest (.points (v.addPoint (s.newPoint x r f)))) := by
  intro r
  have aged : (s.passMs ms).cableway.exposure = some { x with elapsed := raiseTo x.target x.elapsed ms } :=
    congrArg (Option.map _) running
  calc exposureExpiry ms waits s
      = (s.passMs ms).expireExposure := if_pos ((Cableway.expiresIn_iff ..).2 ⟨x, running, due⟩)
    _ = _ := State.expireExposure_exposing ctx phase aged

/-- Settles O39: an exposure that is past T ends before the closure is looked at, and one that is not only grows older. -/
theorem closuresAndExpiries : Obligations.ClosuresAndExpiries := by
  intro ms s powered w later counted full arrived
  have counts : (s.passMs ms).cableway.counts s.cfg.counters.deadMs = counted := Cableway.counts_eq ..
  refine ⟨fun within => ?closure, fun c v f x ctx phase running => ⟨fun past => ?closure_past, fun waits due => ?expiry⟩,
    fun waits within => ?expiry_early⟩
  case closure =>
    have early := exposureExpiry_early (s := s) (ms := ms) (waits := true) fun x running => by
      simp only [w, running, Option.all_some, decide_eq_true_eq] at within
      simp [within]
    refine (event_of_powered powered (meterClosure ms)).trans (congrArg _ ?_)
    cases hit : counted with
    | true =>
      refine (meterClosure_counted early (counts.trans hit)).trans ?_
      simp only [State.passMs, Cableway.pass, Option.map_map]
      rfl
    | false => exact meterClosure_ignored early (counts.trans hit)
  case closure_past =>
    have ends := exposureExpiry_due (waits := true) ctx phase running (.inl past)
    rw [pointResult_whole] at ends
    refine (event_of_powered powered (meterClosure ms)).trans (congrArg _ ?_)
    cases hit : counted with
    | true => exact meterClosure_counted ends (counts.trans hit)
    | false => exact meterClosure_ignored ends (counts.trans hit)
  case expiry =>
    have ends := exposureExpiry_due ctx phase running due
    rw [pointResult_whole] at ends
    exact (event_of_powered powered (exposureExpiry ms waits)).trans (congrArg _ ends)
  case expiry_early =>
    refine (event_of_powered powered (exposureExpiry ms waits)).trans (congrArg _ (exposureExpiry_early fun x running => ?_))
    simp only [w, running, Option.all_some, decide_eq_true_eq] at within
    obtain younger | ⟨meets, held⟩ := within
    · omega
    · simp [meets, held]

end Sys2Proof.Machine
end

section
/-! Point velocity, used points and the velocity of a vertical (O48). -/
namespace Sys2Proof.Machine

/-! ### Point velocity -/

/-- The segment used is the first whose bound reaches the rotor speed; the last one needs no bound (R126). -/
theorem segmentFor_first {nm : Int} {x : MeterSegment} {post : List MeterSegment}
    (fits : post = [] ∨ ∃ b : Int, x.bound = some b ∧ nm ≤ b) {pre : List MeterSegment}
    (below : ∀ y ∈ pre, ∃ b : Int, y.bound = some b ∧ b < nm) (i : Nat) :
    segmentFor nm i (pre ++ x :: post) = some (pre.length + i, x) := by
  induction pre generalizing i with
  | nil =>
    rw [List.nil_append, List.length_nil, Nat.zero_add]
    cases post with
    | nil => rfl
    | cons y post =>
      obtain ⟨b, bound, reached⟩ := fits.resolve_left (List.cons_ne_nil y post)
      rw [segmentFor, bound]
      exact if_pos reached
  | cons y pre ih =>
    obtain ⟨⟨b, bound, passed⟩, below⟩ := List.forall_mem_cons.1 below
    have rest : segmentFor nm i (y :: (pre ++ x :: post)) = segmentFor nm (i + 1) (pre ++ x :: post) := by
      obtain ⟨z, zs, tail⟩ := List.exists_cons_of_ne_nil (List.append_ne_nil_of_right_ne_nil pre (List.cons_ne_nil x post))
      rw [tail, segmentFor, bound]
      exact if_neg (not_le.2 passed)
    rw [List.cons_append, rest, ih below, List.length_cons, Nat.add_right_comm, Nat.add_assoc]

/-- The velocity on a segment, at most 9,999 mm/s (R126, R127). -/
theorem pointSpeed_on {m : Meter} {pulses t i : Nat} {x : MeterSegment} (turned : 0 < pulses)
    (segment : segmentFor (rotorSpeed m.c pulses t) 1 m.segs = some (i, x)) :
    let v := segmentVelocity x m.c pulses t
    pointSpeed m pulses t = ⟨some (rotorSpeed m.c pulses t), some i, some (min v 9999), decide (9999 < v)⟩ := by
  intro v
  unfold pointSpeed
  rw [if_neg turned.ne']
  dsimp only
  rw [segment]
  by_cases fast : 9999 < v
  · rw [min_eq_right fast.le, decide_eq_true fast]
    exact if_pos fast
  · rw [min_eq_left (not_lt.1 fast), decide_eq_false fast]
    exact if_neg fast

/-! ### Used points -/

/-- The points of a fraction that may be used are none exactly where each is DISCARDED or excluded (R141). -/
theorem usablePoints_eq_nil {f : Fraction} {pts : List Point}
    (unusable : ∀ x ∈ pts, x.fraction = f → x.result.marks.discarded = true ∨ x.excluded = true) :
    pts.filter (fun q => decide (q.fraction = f) && q.usable) = [] := by
  refine List.filter_eq_nil_iff.2 fun x mem => ?_
  simpa only [Bool.and_eq_true, decide_eq_true_eq, not_and, Bool.not_eq_true, Point.not_usable_iff] using unusable x mem

theorem usedPoint_eq_none {f : Fraction} {pts : List Point}
    (unusable : ∀ x ∈ pts, x.fraction = f → x.result.marks.discarded = true ∨ x.excluded = true) : usedPoint f pts = none := by
  rw [usedPoint, usablePoints_eq_nil unusable, List.getLast?_nil]

/-- A usable point with no usable one of its fraction behind it is the used point (R141). -/
theorem usedPoint_latest {f : Fraction} {pts later : List Point} {q : Point} (fraction : q.fraction = f) (usable : q.usable = true)
    (unusable : ∀ x ∈ later, x.fraction = f → x.result.marks.discarded = true ∨ x.excluded = true) :
    usedPoint f (pts ++ q :: later) = some q := by
  have chosen : (decide (q.fraction = f) && q.usable) = true := by rw [decide_eq_true fraction, usable, Bool.and_self]
  have latest : (q :: later).filter (fun x => decide (x.fraction = f) && x.usable) = [q] := by
    rw [List.filter_cons, if_pos chosen, usablePoints_eq_nil unusable]
  rw [usedPoint, List.filter_append, latest]
  exact List.getLast?_concat ..

/-- A vertical is complete where every fraction its method needs has a used point (R149). -/
theorem Vertical.complete_iff {v : Vertical} {m : Method} (method : v.method = some m) :
    v.complete = true ↔ ∀ f ∈ neededFractions m, usedPoint f v.points ≠ none := by
  unfold Vertical.complete
  rw [method]
  simp [missingFractions, Option.isNone_iff_eq_none]

theorem Vertical.complete_unnamed {v : Vertical} (method : v.method = none) : v.complete = false := by
  unfold Vertical.complete
  rw [method]

/-- Settles O48: one search finds the segment, and the latest usable point of a fraction is the one used. -/
theorem velocities : Obligations.Velocities := by
  refine ⟨fun m pulses t => ⟨rfl, fun turned => ?speed⟩, fun f pts later q fraction kept shown unusable => ?used,
    fun f pts unusable => usedPoint_eq_none unusable, fun v coeff angle => ?vertical⟩
  case speed =>
    intro nm pre post x segs below fits
    have segment : segmentFor nm 1 m.segs = some (pre.length + 1, x) := by rw [segs, segmentFor_first fits below]
    exact pointSpeed_on turned segment
  case used => exact usedPoint_latest fraction ((Point.usable_iff q).2 ⟨kept, shown⟩) unusable
  case vertical =>
    refine ⟨Vertical.complete_unnamed, fun one => ?_, fun two => ?_, fun surf => ?_, rfl, rfl, rfl⟩
    · simp [Vertical.complete_iff one, neededFractions]
    · simp [Vertical.complete_iff two, neededFractions]
    · simp [Vertical.complete_iff surf, neededFractions]

end Sys2Proof.Machine
end

section
/-! MARK_EDGE START and MARK_BED (O44), BEGIN_VERTICAL (O45), and START_POINT and STOP_POINT (O46). -/
namespace Sys2Proof.Machine

/-- A run request of the holder that is refused leaves the run heard (R136, R189). -/
theorem exec_heard_refused {i : Instr} {r : Request} {s : State} {c : RunContext} {st : Status} (hr : requestOf i = some r)
    (h : s.takes r.port)
    (act : r.act false (s.stamp r.port) = refuse ((s.stamp r.port).setCtx (c.heard s.clock.time)) st) :
    exec i s = .next ((s.setCtx (c.heard s.clock.time)).refusedOn r.port r.code st) :=
  exec_answered (u := s.setCtx (c.heard s.clock.time)) hr h rfl act

/-! ### MARK_EDGE START and MARK_BED -/

section EdgeAndBed

variable {p : Port} {s : State} {c : RunContext} (holds : s.holds p c)

include holds

/-- MARK_EDGE START in OPEN: the start edge joins the list, and the run is READY (R142). -/
theorem markEdgeStart_opened (phase : c.phase = .opened) (depth factor : Int) :
    let edge := edgeVertical s .startEdge 0 (clamp 0 30000 depth) (clamp 0 1000 factor)
    markEdgeStart p .start depth factor s = reply { s with run := { s.run with
      ctx := some { c.heard s.clock.time with phase := .rest .ready, heldStage := c.heldStage || s.readStage.heldStage }
      verticals := s.run.verticals ++ [edge] } } (okStatus (isOutside 0 30000 depth || isOutside 0 1000 factor))
      (.station edge.station) := by
  have heard : (c.heard s.clock.time).phase = .opened := phase
  unfold markEdgeStart
  rw [asHolder_of_holds holds, heard]
  rfl

theorem markEdgeStart_other (phase : c.phase = .opened ∨ c.phase = .rest .ready) (depth factor : Int) :
    markEdgeStart p .other depth factor s = refuse (s.setCtx (c.heard s.clock.time)) .badValue := by
  have heard : (c.heard s.clock.time).phase = .opened ∨ (c.heard s.clock.time).phase = .rest .ready := phase
  unfold markEdgeStart
  rw [asHolder_of_holds holds]
  obtain heard | heard := heard <;> rw [heard]

/-- MARK_BED in SOUNDING takes the depth now with its marks (R144). -/
theorem markBed_sounding {v : Vertical} (phase : c.phase = .rest (.sounding v)) :
    let d : VerticalDepth :=
      ⟨s.depth.mm, .sounded s.depth.clamped s.cableway.traverse.fault s.cableway.sounding.fault⟩
    markBed p s = reply (s.setCtx { c.heard s.clock.time with phase := .rest (.points { v with depth := some d }) }) .ok
      (.depth d) := by
  have heard : (c.heard s.clock.time).phase = .rest (.sounding v) := phase
  unfold markBed
  rw [asHolder_of_holds holds, heard]
  rfl

end EdgeAndBed

/-- Settles O44: the start edge is the record of the position and the stage now, and the bed the depth now. -/
theorem edgeAndBed : Obligations.EdgeAndBed := by
  intro p s c taken holds h w here station held
  have holds_stamp : (s.stamp p).holds p c := holds
  refine ⟨fun depth factor phase => ?start, fun depth factor phase => ?other, fun v phase => ?bed⟩
  case start =>
    intro edge
    exact exec_answered (i := .markEdgeStart p .start depth factor) (u := { s with run := { s.run with
      ctx := some { h with phase := .rest .ready, heldStage := c.heldStage || held }, verticals := s.run.verticals ++ [edge] } })
      rfl taken rfl (markEdgeStart_opened holds_stamp phase depth factor)
  case other =>
    exact exec_heard_refused (i := .markEdgeStart p .other depth factor) rfl taken
      (markEdgeStart_other holds_stamp phase depth factor)
  case bed =>
    intro raw d
    have act := markBed_sounding holds_stamp phase
    rw [State.depth_eq] at act
    exact exec_answered (i := .markBed p) (u := s.setCtx { h with phase := .rest (.points { v with depth := some d }) })
      rfl taken rfl act

/-! ### BEGIN_VERTICAL -/

theorem lastStation_concat (front : List Vertical) (last : Vertical) : lastStation (front ++ [last]) = last.station.mm := by
  rw [lastStation, List.getLast?_concat]
  rfl

theorem startStation_eq (vs : List Vertical) : startStation vs = (vs.map (fun v => v.station.mm)).headD 0 := by
  cases vs <;> rfl

/-- A station is beyond the list by its last station in the run's direction (R143, R152). -/
theorem beyond_directed (d : Direction) (front : List Vertical) (last : Vertical) (station : Int) :
    beyond (some d) (front ++ [last]) station = true ↔
      if d = .ascending then last.station.mm < station else station < last.station.mm := by
  cases d <;> simp [beyond, lastStation_concat]

/-- BEGIN_VERTICAL in READY, by the length of the list and the order of the stations (R143). -/
theorem beginVertical_ready {p : Port} {s : State} {c : RunContext} {front : List Vertical} {last : Vertical} (holds : s.holds p c)
    (phase : c.phase = .rest .ready) (list : s.run.verticals = front ++ [last]) :
    let heard := s.setCtx (c.heard s.clock.time)
    beginVertical p s =
      if 47 ≤ front.length + 1 then refuse heard .full
      else if beyond c.direction (front ++ [last]) s.station.mm then
        reply (s.setCtx { c.heard s.clock.time with
          phase := .rest (.sounding (newVertical (front.length + 1) s.position.toStation))
          direction := some (directionOf c.direction (front ++ [last]) s.station.mm) }) .ok (.station s.position.toStation)
      else reply heard .outOfOrder (.outOfOrder s.station last.station.mm) := by
  intro heard
  have ready : (c.heard s.clock.time).phase = .rest .ready := phase
  have verticals : heard.run.verticals = front ++ [last] := list
  unfold beginVertical
  rw [asHolder_of_holds holds, ready]
  dsimp only
  rw [verticals, List.length_append, lastStation_concat]
  rfl

/-- Settles O45: what is beyond the list is decided by its last station, or by its first while the direction is absent. -/
theorem beginVertical_holds : Obligations.BeginVertical := by
  intro p s c front last taken holds phase list h run here station first work begun disordered
  have act := beginVertical_ready (s := s.stamp p) holds phase list
  refine ⟨fun full => exec_heard_refused (i := .beginVertical p) rfl taken (act.trans (if_pos (by omega))), fun room => ?_⟩
  have checked := act.trans (if_neg (by omega))
  have begins {d : Direction} (inOrder : beyond c.direction (front ++ [last]) here.mm = true)
      (direction : directionOf c.direction (front ++ [last]) here.mm = d) : begun d := by
    subst direction
    exact exec_answered (i := .beginVertical p) (u := s.setCtx { h with
      phase := .rest (.sounding work), direction := some (directionOf c.direction (front ++ [last]) here.mm) }) rfl taken rfl
      (checked.trans (if_pos inOrder))
  have refuses (outOfOrder : ¬ beyond c.direction (front ++ [last]) here.mm = true) : disordered :=
    exec_answered (i := .beginVertical p) (u := s.setCtx h) rfl taken rfl (checked.trans (if_neg outOfOrder))
  refine ⟨fun direction => ?ascending, fun direction => ?descending, fun direction => ?absent⟩
  case ascending =>
    rw [direction, beyond_directed, if_pos rfl] at begins refuses
    split
    · exact begins ‹_› rfl
    · exact refuses ‹_›
  case descending =>
    rw [direction, beyond_directed, if_neg nofun] at begins refuses
    split
    · exact begins ‹_› rfl
    · exact refuses ‹_›
  case absent =>
    have differs : beyond c.direction (front ++ [last]) here.mm = true ↔ here.mm ≠ first := by
      rw [direction, beyond, startStation_eq, decide_eq_true_iff]
    have chosen : directionOf c.direction (front ++ [last]) here.mm = if first < here.mm then .ascending else .descending := by
      rw [direction, directionOf, startStation_eq]
    split
    · exact begins (differs.2 (by omega)) (chosen.trans (if_pos ‹_›))
    · split
      · exact begins (differs.2 (by omega)) (chosen.trans (if_neg ‹_›))
      · exact refuses fun inOrder => differs.1 inOrder (by omega)

/-! ### Points -/

theorem fractionOf_eq_none_iff (n : Nat) : fractionOf n = none ↔ n ∉ [0, 2, 6, 8] := by
  unfold fractionOf
  split <;> simp_all

/-- The point result of an exposure that ends SHORT: DISCARDED below 15,000 ms (R125, R128, R129). -/
theorem pointResult_short (meters : MeterTable) (x : Exposure) (t : Nat) (cut : Bool) :
    let speed := pointSpeed (meters.get x.meter) x.pulses t
    pointResult meters x t true cut =
      if t < 15000 then ⟨x.meter, x.startTime, x.depth, t, x.pulses, none, none, none, ⟨true, true, false, cut⟩⟩
      else ⟨x.meter, x.startTime, x.depth, t, x.pulses, speed.nm, speed.segment, speed.velocity,
        ⟨true, false, speed.clamped, cut⟩⟩ := by
  intro speed
  by_cases brief : t < 15000
  · rw [if_pos brief]
    exact if_pos ⟨rfl, brief⟩
  · rw [if_neg brief]
    exact if_neg (not_and_of_not_right _ brief)

section Points

variable {p : Port} {s : State} {c : RunContext} {v : Vertical} (holds : s.holds p c)

include holds

theorem startPoint_outside {fraction : Nat} (phase : c.phase = .rest (.points v)) (outside : fractionOf fraction = none) :
    startPoint p fraction s = refuse (s.setCtx (c.heard s.clock.time)) .badValue := by
  have heard : (c.heard s.clock.time).phase = .rest (.points v) := phase
  unfold startPoint
  rw [asHolder_of_holds holds, heard]
  dsimp only
  rw [outside]

/-- START_POINT in POINTS with a fraction of R145, by the number of points. -/
theorem startPoint_points {fraction : Nat} {f : Fraction} (phase : c.phase = .rest (.points v))
    (named : fractionOf fraction = some f) :
    startPoint p fraction s = if 4 ≤ v.points.length then refuse (s.setCtx (c.heard s.clock.time)) .full
      else reply ((s.startExposure c.meter c.target).setCtx { c.heard s.clock.time with phase := .exposing v f }) .ok
        (.pointStarted s.clock.time c.target) := by
  have heard : (c.heard s.clock.time).phase = .rest (.points v) := phase
  unfold startPoint
  rw [asHolder_of_holds holds, heard]
  dsimp only
  rw [named]
  rfl

/-- STOP_POINT in EXPOSING ends the exposure at its elapsed time, and its point joins the vertical under work (R125, R146). -/
theorem stopPoint_exposing {f : Fraction} {x : Exposure} (phase : c.phase = .exposing v f)
    (running : s.cableway.exposure = some x) :
    let r := pointResult s.cfg.meters x x.elapsed true false
    let q := s.newPoint x r f
    stopPoint p s = reply ((s.endExposure r).setCtx { c.heard s.clock.time with phase := .rest (.points (v.addPoint q)) }) .ok
      (.point q) := by
  have heard : (c.heard s.clock.time).phase = .exposing v f := phase
  have exposure : (s.setCtx (c.heard s.clock.time)).cableway.exposure = some x := running
  unfold stopPoint
  rw [asHolder_of_holds holds, heard, exposure]
  rfl

end Points

/-- Settles O46: the fraction and the number of points decide START_POINT, and STOP_POINT ends the exposure as it stands. -/
theorem points : Obligations.Points := by
  intro p s c taken holds h
  have holds_stamp : (s.stamp p).holds p c := holds
  refine ⟨fun v fraction phase => ⟨fun outside => ?outside, fun named full => ?full, fun f named room => ?start⟩,
    ⟨rfl, rfl, rfl, rfl⟩, fun v f x phase running => ?stop⟩
  case outside =>
    exact exec_heard_refused (i := .startPoint p fraction) rfl taken
      (startPoint_outside holds_stamp phase ((fractionOf_eq_none_iff fraction).2 outside))
  case full =>
    obtain ⟨f, named⟩ := Option.ne_none_iff_exists'.1 (fun unnamed => (fractionOf_eq_none_iff fraction).1 unnamed named)
    exact exec_heard_refused (i := .startPoint p fraction) rfl taken
      ((startPoint_points holds_stamp phase named).trans (if_pos full))
  case start =>
    intro raw x
    have act := (startPoint_points holds_stamp phase named).trans (if_neg (not_le.2 room))
    rw [State.startExposure, State.depth_eq] at act
    exact exec_answered (i := .startPoint p fraction) (u := { s.setCtx { h with phase := .exposing v f } with
      cableway := { s.cableway with exposure := some x } }) rfl taken rfl act
  case stop =>
    intro speed r q
    have act := stopPoint_exposing holds_stamp phase running
    rw [pointResult_short] at act
    exact exec_answered (i := .stopPoint p) (u := { s.setCtx { h with phase := .rest (.points { v with points := v.points ++ [q] }) }
      with cableway := { s.cableway with exposure := none, lastPoint := some r } }) rfl taken rfl act

end Sys2Proof.Machine
end

section
/-! MARK_EDGE END (O50): the finalisation of a vertical by its neighbours in the list, and the end edge. -/
namespace Sys2Proof.Machine

/-! ### Finalisation -/

/-- A vertical with the mean velocity, and the discharge and area over a span, that its finalisation writes (R164, R165). -/
def Vertical.finalOver (v : Vertical) (mean span : Int) : Vertical :=
  let d := (v.depth.map (fun x => x.mm)).getD 0
  { v with
    mean := some mean, partialQ := some (roundDiv (mean * d * span) 2000), partialA := some (roundDiv (d * span) 2) }

theorem finalValues_eq (vs : List Vertical) (v : Vertical) (i : Nat) :
    finalValues vs v i = v.finalOver (finalMean vs v i) (spanAt vs v.kind i) := rfl

theorem stationAt_append (front vs : List Vertical) (k : Nat) : stationAt (front ++ vs) (front.length + k) = stationAt vs k := by
  simp [stationAt, List.getElem?_append_right]

theorem meanAt_append (front vs : List Vertical) (k : Nat) : meanAt (front ++ vs) (front.length + k) = meanAt vs k := by
  simp [meanAt, List.getElem?_append_right]

/-- The values a vertical takes at its finalisation come from its two neighbours alone (R163, R164). -/
theorem finalValues_append (front vs : List Vertical) (v : Vertical) (k : Nat) :
    finalValues (front ++ vs) v (front.length + (k + 1)) = finalValues vs v (k + 1) := by
  have mean : finalMean (front ++ vs) v (front.length + (k + 1)) = finalMean vs v (k + 1) := by
    unfold finalMean
    cases v.kind with
    | interior => rfl
    | startEdge => exact congrArg (edgeMean _) (meanAt_append front vs (k + 2))
    | endEdge => exact congrArg (edgeMean _) (meanAt_append front vs k)
  have span : spanAt (front ++ vs) v.kind (front.length + (k + 1)) = spanAt vs v.kind (k + 1) := by
    have before : stationAt (front ++ vs) (front.length + (k + 1) - 1) = stationAt vs k := stationAt_append front vs k
    have after : stationAt (front ++ vs) (front.length + (k + 1) + 1) = stationAt vs (k + 2) := stationAt_append front vs (k + 2)
    unfold spanAt
    rw [before, after, stationAt_append]
    rfl
  rw [finalValues_eq, finalValues_eq, mean, span]

/-- A finalisation that has its predecessor in the end of a list leaves what stands before that end (R165). -/
theorem Sums.finalise_append (front vs : List Vertical) (q a : Int) (k : Nat) :
    let x := (Sums.mk vs q a).finalise (k + 1)
    (Sums.mk (front ++ vs) q a).finalise (front.length + (k + 1)) = ⟨front ++ x.verticals, x.q, x.a⟩ := by
  have found : (front ++ vs)[front.length + (k + 1)]? = vs[k + 1]? := by simp [List.getElem?_append_right]
  unfold Sums.finalise
  dsimp only
  rw [found]
  cases vs[k + 1]? with
  | none => rfl
  | some v =>
    dsimp only
    rw [finalValues_append, List.set_append_right _ _ (Nat.le_add_right ..), Nat.add_sub_cancel_left]

section EndOfList

variable {last edge : Vertical} (front : List Vertical) (prior : Vertical) (q a : Int)

/-- An interior vertical spans the stations of its neighbours, with its own mean velocity (R162, R164). -/
theorem Sums.finalise_interior (kind : last.kind = .interior) :
    let done := last.finalOver (last.mean.getD 0) |edge.station.mm - prior.station.mm|
    (Sums.mk (front ++ [prior, last, edge]) q a).finalise (front.length + 1) =
      ⟨front ++ [prior, done, edge], q + done.partialQ.getD 0, a + done.partialA.getD 0⟩ := by
  intro done
  have values : finalValues [prior, last, edge] last 1 = done := by
    rw [finalValues_eq]
    unfold finalMean
    rw [kind]
    rfl
  rw [Sums.finalise_append, ← values]
  rfl

/-- An end edge spans the way from the vertical before it, and takes its mean velocity from it (R163, R164). -/
theorem Sums.finalise_endEdge (kind : edge.kind = .endEdge) :
    let closed := edge.finalOver (roundDiv (edge.factor.getD 0 * last.mean.getD 0) 1000) |edge.station.mm - last.station.mm|
    (Sums.mk (front ++ [prior, last, edge]) q a).finalise (front.length + 2) =
      ⟨front ++ [prior, last, closed], q + closed.partialQ.getD 0, a + closed.partialA.getD 0⟩ := by
  intro closed
  have values : finalValues [prior, last, edge] edge 2 = closed := by
    rw [finalValues_eq]
    unfold finalMean
    rw [kind]
    rfl
  rw [Sums.finalise_append, ← values]
  rfl

end EndOfList

/-! ### MARK_EDGE END -/

section MarkEdgeEnd

variable {p : Port} {s : State} {c : RunContext} (holds : s.holds p c) (phase : c.phase = .rest .ready) (depth factor : Int)

include holds phase

/-- MARK_EDGE END in READY, by the number of interior verticals and the order of the stations (R152). -/
theorem markEdgeEnd_ready :
    let vs := s.run.verticals
    let edge := edgeVertical s .endEdge vs.length (clamp 0 30000 depth) (clamp 0 1000 factor)
    let x := Sums.finalise (Sums.finalise ⟨vs ++ [edge], c.qSum, c.aSum⟩ (vs.length - 1)) vs.length
    markEdgeEnd p depth factor s =
      if interiorCount vs < 3 then refuse (s.setCtx (c.heard s.clock.time)) .tooFew
      else if beyond c.direction vs s.station.mm then
        reply (s.setSums { c.heard s.clock.time with phase := .finished, heldStage := c.heldStage || s.readStage.heldStage } x)
          (okStatus (isOutside 0 30000 depth || isOutside 0 1000 factor)) (.accepted ((x.verticals[vs.length]?).getD edge) x.q x.a)
      else refuse (s.setCtx (c.heard s.clock.time)) .outOfOrder := by
  have heard : (c.heard s.clock.time).phase = .rest .ready := phase
  unfold markEdgeEnd
  rw [asHolder_of_holds holds, heard]
  rfl

/-- MARK_EDGE END that is taken: the last interior vertical is finalised, then the end edge (R152, R165). -/
theorem markEdgeEnd_taken {front : List Vertical} {prior last : Vertical} (list : s.run.verticals = front ++ [prior, last])
    (enough : 3 ≤ interiorCount s.run.verticals) (interior : last.kind = .interior)
    (inOrder : beyond c.direction s.run.verticals s.station.mm = true) :
    let edge := edgeVertical s .endEdge (front.length + 2) (clamp 0 30000 depth) (clamp 0 1000 factor)
    let done := last.finalOver (last.mean.getD 0) |s.station.mm - prior.station.mm|
    let closed := edge.finalOver (roundDiv (clamp 0 1000 factor * last.mean.getD 0) 1000) |s.station.mm - last.station.mm|
    let q := c.qSum + done.partialQ.getD 0 + closed.partialQ.getD 0
    let a := c.aSum + done.partialA.getD 0 + closed.partialA.getD 0
    markEdgeEnd p depth factor s =
      reply (s.setSums { c.heard s.clock.time with phase := .finished, heldStage := c.heldStage || s.readStage.heldStage }
        ⟨front ++ [prior, done, closed], q, a⟩) (okStatus (isOutside 0 30000 depth || isOutside 0 1000 factor))
        (.accepted closed q a) := by
  intro edge done closed q a
  have length : s.run.verticals.length = front.length + 2 := by rw [list, List.length_append]; rfl
  have joined : s.run.verticals ++ [edge] = front ++ [prior, last, edge] := by rw [list, List.append_assoc]; rfl
  have sums : ((Sums.mk (front ++ [prior, last, edge]) c.qSum c.aSum).finalise (front.length + 2 - 1)).finalise
      (front.length + 2) = ⟨front ++ [prior, done, closed], q, a⟩ :=
    (congrArg (Sums.finalise · _) (Sums.finalise_interior front prior _ _ interior)).trans
      (Sums.finalise_endEdge front prior _ _ rfl)
  have joins : (front ++ [prior, done, closed])[front.length + 2]? = some closed := by simp
  rw [markEdgeEnd_ready holds phase, if_neg (not_lt.2 enough), if_pos inOrder, length, joined, sums]
  dsimp only
  rw [joins]
  rfl

end MarkEdgeEnd

/-- Settles O50: each finalisation reads the neighbours in the list, and the direction decides the order. -/
theorem markEdgeEnd_holds : Obligations.MarkEdgeEnd := by
  intro p depth factor s c taken holds phase h run interiors here
  have act := markEdgeEnd_ready (s := s.stamp p) holds phase depth factor
  refine ⟨fun few => exec_heard_refused (i := .markEdgeEnd p depth factor) rfl taken (act.trans (if_pos few)), ?_⟩
  intro enough front prior last list interior dir direction past held vm d1 span1 done em d2 span2 edge q a
  have order : beyond c.direction s.run.verticals here.mm = true ↔ past := by
    rw [direction, list, List.append_cons, beyond_directed]
  refine ⟨fun short => ?outOfOrder, fun inOrder => ?finished⟩
  case outOfOrder =>
    exact exec_heard_refused (i := .markEdgeEnd p depth factor) rfl taken
      (act.trans ((if_neg (not_lt.2 enough)).trans (if_neg (order.not.2 short))))
  case finished =>
    exact exec_answered (i := .markEdgeEnd p depth factor) (u := { s with run := { s.run with
      ctx := some { h with phase := .finished, heldStage := c.heldStage || held, qSum := q, aSum := a }
      verticals := front ++ [prior, done, edge] } }) rfl taken rfl
      (markEdgeEnd_taken (s := s.stamp p) holds phase depth factor list enough interior (order.2 inOrder))

end Sys2Proof.Machine
end

section
/-! The stations of an open run (O12). The invariant asks the run unit for the stations of the list, the phase and the direction.
MARK_EDGE START, BEGIN_VERTICAL, ACCEPT and MARK_EDGE END bring a station or move it into the list, and the last of the list decides
whether a new one is in order; every other change of an open run keeps the stations of the list and of the vertical under work. -/
namespace Sys2Proof.Machine

/-! ### What the invariant looks at -/

/-- The stations of a list of verticals. -/
def stationsOf (vs : List Vertical) : List Int := vs.map (fun v => v.station.mm)

theorem stationsOf_append (vs : List Vertical) (v : Vertical) : stationsOf (vs ++ [v]) = stationsOf vs ++ [v.station.mm] :=
  List.map_append

/-- The station of the vertical under work. -/
def RunPhase.workStation (ph : RunPhase) : Option Int := ph.work.map (fun v => v.station.mm)

/-- Stations strictly monotonic in the direction of a run; at most one while it has none (R143). -/
def Directed (d : Option Direction) (xs : List Int) : Prop :=
  match d with
  | none => xs.length ≤ 1
  | some x => stationsOrdered x xs

/-- What O12 asks of the stations of the list of an open run, of its phase and of its direction (`stationsSound_iff`). -/
structure StationsFit (xs : List Int) (ph : RunPhase) (d : Option Direction) : Prop where
  size : xs.length ≤ 48
  room : ph ≠ .finished → (xs ++ ph.workStation.toList).length ≤ 47
  start : ph = .opened → xs = [] ∧ d = none
  begun : d = none → ph.workStation = none
  directed : Directed d (xs ++ ph.workStation.toList)

theorem stationsSound_iff (s : State) :
    StationsSound s ↔ ∀ c, s.run.ctx = some c → StationsFit (stationsOf s.run.verticals) c.phase c.direction := by
  refine forall₂_congr fun c _ => ?_
  constructor
  · rintro ⟨size, room, start, directed⟩
    refine ⟨by simpa [stationsOf] using size, room, fun opened => ?_, fun undirected => ?_, ?_⟩
    · obtain ⟨empty, direction⟩ := start opened
      exact ⟨by rw [empty]; rfl, direction⟩
    · rw [undirected] at directed
      simp [RunPhase.workStation, directed.2]
    · cases direction : c.direction with
      | none =>
        rw [direction] at directed
        simpa [Directed, RunPhase.workStation, stationsOf, directed.2] using directed.1
      | some x =>
        rw [direction] at directed
        exact directed
  · rintro ⟨size, room, start, begun, directed⟩
    refine ⟨by simpa [stationsOf] using size, room, fun opened => ?_, ?_⟩
    · obtain ⟨empty, direction⟩ := start opened
      exact ⟨List.map_eq_nil_iff.1 empty, direction⟩
    · cases direction : c.direction with
      | none =>
        have idle := begun direction
        rw [direction, idle] at directed
        exact ⟨by simpa [Directed, stationsOf] using directed, Option.map_eq_none_iff.1 idle⟩
      | some x =>
        rw [direction] at directed
        exact directed

/-! ### Changes of phase -/

/-- A phase changed between OPEN and FINISHED with the station of the vertical under work as it is. -/
theorem StationsFit.move {xs : List Int} {ph ph' : RunPhase} {d : Option Direction} (h : StationsFit xs ph d)
    (work : ph'.workStation = ph.workStation) (running : ph ≠ .finished) (opened : ph' ≠ .opened) : StationsFit xs ph' d where
  size := h.size
  room _ := by rw [work]; exact h.room running
  start e := absurd e opened
  begun undirected := work.trans (h.begun undirected)
  directed := by rw [work]; exact h.directed

theorem StationsSound.of_run {s t : State} (h : StationsSound s) (same : t.run = s.run) : StationsSound t := by
  unfold StationsSound runStations
  rw [same]
  exact h

theorem StationsSound.of_idle {s : State} (idle : s.run.ctx = none) : StationsSound s := fun _ ctx => by
  rw [idle] at ctx
  cases ctx

theorem StationsSound.fit {s : State} {c : RunContext} (h : StationsSound s) (ctx : s.run.ctx = some c) :
    StationsFit (stationsOf s.run.verticals) c.phase c.direction := (stationsSound_iff s).1 h c ctx

theorem StationsSound.fit_of_phase {s : State} {c : RunContext} {ph : RunPhase} (h : StationsSound s) (ctx : s.run.ctx = some c)
    (phase : c.phase = ph) : StationsFit (stationsOf s.run.verticals) ph c.direction := phase ▸ h.fit ctx

theorem StationsSound.of_fit {s : State} {c : RunContext} (ctx : s.run.ctx = some c)
    (fit : StationsFit (stationsOf s.run.verticals) c.phase c.direction) : StationsSound s := by
  rw [stationsSound_iff, ctx]
  rintro _ ⟨⟩
  exact fit

/-- The context replaced by one of the same phase and direction. -/
theorem StationsSound.setCtx {s : State} {c d : RunContext} (h : StationsSound s) (ctx : s.run.ctx = some c)
    (phase : d.phase = c.phase) (direction : d.direction = c.direction) : StationsSound (s.setCtx d) := by
  refine .of_fit rfl ?_
  rw [phase, direction]
  exact h.fit ctx

/-- The context replaced by one of another phase with the station of the vertical under work as it is. -/
theorem StationsSound.move {s : State} {c d : RunContext} {ph : RunPhase} (h : StationsSound s) (ctx : s.run.ctx = some c)
    (phase : c.phase = ph) (direction : d.direction = c.direction) (work : d.phase.workStation = ph.workStation)
    (running : ph ≠ .finished) (opened : d.phase ≠ .opened) : StationsSound (s.setCtx d) := by
  refine .of_fit rfl ?_
  rw [direction]
  exact (h.fit_of_phase ctx phase).move work running opened

/-! ### A station in order -/

/-- Stations in order with one more are those whose last lies before it in the direction. -/
theorem stationsOrdered_append (d : Direction) (vs : List Vertical) (station : Int) :
    stationsOrdered d (stationsOf vs ++ [station]) ↔
      stationsOrdered d (stationsOf vs) ∧ (vs ≠ [] → beyond (some d) vs station = true) := by
  obtain rfl | ⟨front, last, rfl⟩ := vs.eq_nil_or_concat'
  · cases d <;> simp [stationsOrdered, stationsOf]
  · cases d <;>
    · rw [stationsOrdered, stationsOrdered, ← List.isChain_iff_pairwise, ← List.isChain_iff_pairwise, List.isChain_append]
      simp [stationsOf_append, beyond_directed]

/-- A station beyond the list of a run goes on in its direction, or in the one that it sets (R143). -/
theorem Directed.beyond {d : Option Direction} {vs : List Vertical} {station : Int} (h : Directed d (stationsOf vs))
    (inOrder : Machine.beyond d vs station = true) :
    stationsOrdered (directionOf d vs station) (stationsOf vs ++ [station]) := by
  cases d with
  | some x => exact (stationsOrdered_append ..).2 ⟨h, fun _ => inOrder⟩
  | none =>
    have few : vs.length ≤ 1 := (List.length_map _).symm.trans_le h
    obtain rfl | ⟨v, rfl⟩ : vs = [] ∨ ∃ v, vs = [v] := by
      rw [← List.length_eq_zero_iff, ← List.length_eq_one_iff]
      omega
    · exact (stationsOrdered_append ..).2 ⟨by cases directionOf none [] station <;> exact .nil, fun filled => absurd rfl filled⟩
    · have differs : station ≠ v.station.mm := of_decide_eq_true inOrder
      obtain up | down := lt_or_gt_of_ne differs.symm
      · simp [directionOf, startStation, stationsOrdered, stationsOf, up]
      · simp [directionOf, startStation, stationsOrdered, stationsOf, down, down.not_gt]

/-- OPEN_RUN starts with an empty list and no direction (R139). -/
theorem StationsFit.opened : StationsFit [] .opened none :=
  ⟨Nat.zero_le _, fun _ => Nat.zero_le _, fun _ => ⟨rfl, rfl⟩, fun _ => rfl, Nat.zero_le _⟩

/-- MARK_EDGE START brings the first station (R142). -/
theorem StationsFit.startEdge {xs : List Int} {d : Option Direction} (h : StationsFit xs .opened d) (station : Int) :
    StationsFit (xs ++ [station]) (.rest .ready) d := by
  obtain ⟨rfl, rfl⟩ := h.start rfl
  exact ⟨Nat.le_add_left 1 47, fun _ => Nat.le_add_left 1 46, nofun, fun _ => rfl, le_refl 1⟩

/-- BEGIN_VERTICAL brings a vertical under work beyond the list (R143). -/
theorem StationsFit.beginVertical {vs : List Vertical} {d : Option Direction} (h : StationsFit (stationsOf vs) (.rest .ready) d)
    (room : ¬ 47 ≤ vs.length) {v : Vertical} (inOrder : beyond d vs v.station.mm = true) :
    StationsFit (stationsOf vs) (.rest (.sounding v)) (some (directionOf d vs v.station.mm)) where
  size := h.size
  room _ := by
    simp only [RunPhase.workStation, RunPhase.work, Rest.work, stationsOf, Option.map_some, Option.toList_some, List.length_append,
      List.length_map, List.length_singleton]
    omega
  start := nofun
  begun := nofun
  directed := Directed.beyond (by simpa [RunPhase.workStation, RunPhase.work, Rest.work] using h.directed) inOrder

/-- ACCEPT moves the station of the vertical under work into the list (R150). -/
theorem StationsFit.accept {xs : List Int} {v : Vertical} {d : Option Direction} (h : StationsFit xs (.rest (.review v)) d) :
    StationsFit (xs ++ [v.station.mm]) (.rest .ready) d := by
  have room : (xs ++ [v.station.mm]).length ≤ 47 := h.room nofun
  have directed : Directed d (xs ++ [v.station.mm]) := h.directed
  rw [← List.append_nil (xs ++ [v.station.mm])] at room directed
  exact ⟨by simpa using room.trans (by decide : 47 ≤ 48), fun _ => room, nofun, fun _ => rfl, directed⟩

/-- MARK_EDGE END brings the last station beyond the list, whose interior verticals have set the direction (R152). -/
theorem StationsFit.endEdge {vs : List Vertical} {d : Option Direction} (h : StationsFit (stationsOf vs) (.rest .ready) d)
    (enough : ¬ interiorCount vs < 3) {station : Int} (inOrder : beyond d vs station = true) :
    StationsFit (stationsOf vs ++ [station]) .finished d := by
  have room : (stationsOf vs ++ []).length ≤ 47 := h.room nofun
  have directed : Directed d (stationsOf vs ++ []) := h.directed
  rw [List.append_nil] at room directed
  obtain ⟨x, rfl⟩ : ∃ x, d = some x := by
    cases d with
    | some x => exact ⟨x, rfl⟩
    | none =>
      have few : vs.length ≤ 1 := List.length_map (as := vs) _ ▸ directed
      have counted : interiorCount vs ≤ vs.length := List.length_filter_le ..
      omega
  refine ⟨?_, fun running => absurd rfl running, nofun, fun _ => rfl, ?_⟩
  · rw [List.length_append]
    exact Nat.succ_le_succ room
  · exact (List.append_nil (stationsOf vs ++ [station])).symm ▸ directed.beyond inOrder

/-- A finalisation leaves the station of every vertical (R165). -/
theorem Sums.finalise_stations (x : Sums) (i : Nat) : stationsOf (x.finalise i).verticals = stationsOf x.verticals := by
  unfold Sums.finalise
  split
  · rfl
  · rename_i v found
    obtain ⟨inside, rfl⟩ := List.getElem?_eq_some_iff.1 found
    have station : (finalValues x.verticals x.verticals[i] i).station.mm = (stationsOf x.verticals)[i]'(by simpa [stationsOf]) :=
      (List.getElem_map (fun v : Vertical => v.station.mm)).symm
    exact List.map_set.trans ((congrArg _ station).trans (List.set_getElem_self _))

/-- A vertical that joins the list brings its station, whatever is then finalised. -/
theorem Sums.finalise_joined (vs : List Vertical) (v : Vertical) (q a : Int) (i : Nat) :
    stationsOf ((Sums.mk (vs ++ [v]) q a).finalise i).verticals = stationsOf vs ++ [v.station.mm] :=
  (Sums.finalise_stations ..).trans (stationsOf_append ..)

/-! ### Events -/

theorem StationsSound.postTo {s : State} (h : StationsSound s) (p : Port) (n : Notice) : StationsSound (s.postTo p n) :=
  h.of_run (State.postTo_run ..)

theorem StationsSound.postAll {s : State} (h : StationsSound s) (n : Notice) : StationsSound (s.postAll n) :=
  h.of_run (State.postAll_run ..)

theorem StationsSound.postEach {s : State} (h : StationsSound s) (ns : List Notice) : StationsSound (s.postEach ns) := by
  induction ns generalizing s with
  | nil => exact h
  | cons n ns ih => exact ih (h.postAll n)

theorem StationsSound.expireExposure {s : State} (h : StationsSound s) : StationsSound s.expireExposure := by
  unfold State.expireExposure
  split
  · exact h
  · rename_i x _
    split
    · exact h
    · rename_i c ctx
      split
      · rename_i exposing
        exact StationsSound.move (s := s.endExposure _) h ctx exposing rfl rfl nofun nofun
      · exact h

theorem StationsSound.exposureExpiry {s : State} (h : StationsSound s) (ms : Nat) (waits : Bool) :
    StationsSound (exposureExpiry ms waits s) := by
  unfold Machine.exposureExpiry
  split
  · exact StationsSound.expireExposure (s := s.passMs ms) h
  · exact h

/-- A retrieve request leaves the list, the direction and the station of the vertical under work (R155). -/
theorem StationsSound.retrieve {s : State} (h : StationsSound s) (time : Nat) : StationsSound (s.retrieve time) := by
  unfold State.retrieve
  cases ctx : s.run.ctx with
  | none => exact h
  | some c =>
    dsimp only
    have told (entered : Option RunState) {u : State} (sound : StationsSound u) : StationsSound (u.postRetrieve c time entered) :=
      sound.of_run (State.postRetrieve_run ..)
    cases phase : c.phase with
    | opened | finished | retrieving _ => exact told _ h
    | rest r => exact told _ (h.move ctx phase rfl rfl nofun nofun)
    | exposing v f => cases s.cableway.exposure <;> exact told _ (h.move ctx phase rfl rfl nofun nofun)

theorem StationsSound.takeEntry {s : State} (h : StationsSound s) (cls : TriggerClass) (time : Nat) :
    StationsSound (s.takeEntry cls time) := by
  unfold State.takeEntry State.entryRetrieve
  dsimp only
  split
  · exact StationsSound.retrieve (h.of_run (by simp)) time
  · exact h.of_run (by simp)

theorem StationsSound.evaluate {s : State} (h : StationsSound s) (m : MinuteMean) (rate : Option Int) (sensor : SensorState) :
    StationsSound (s.evaluate m rate sensor) :=
  evaluate_keeps (fun _ _ h => h) (fun _ cls time h => h.takeEntry cls time) h m rate sensor

theorem StationsSound.minuteClose {s : State} (h : StationsSound s) : StationsSound (minuteClose s) := by
  unfold Machine.minuteClose
  split
  · refine StationsSound.evaluate (h.of_run ?_) _ _ _
    exact State.boundaryEntry_run ..
  · exact h

/-- A count raises the quiet count of a run (R136). -/
theorem StationsSound.countAll {s : State} (h : StationsSound s) : StationsSound s.countAll := by
  cases ctx : s.run.ctx with
  | none => exact .of_idle (congrArg (Option.map _) ctx)
  | some c =>
    refine .of_fit (c := c.count) (congrArg (Option.map _) ctx) ?_
    have same : c.count.phase = c.phase ∧ c.count.direction = c.direction := by
      unfold RunContext.count
      split <;> exact ⟨rfl, rfl⟩
    rw [same.1, same.2]
    exact h.fit ctx

theorem StationsSound.settle {s : State} (h : StationsSound s) : StationsSound s.settle :=
  (h.of_run ((State.deadlineExpiry_run _).trans (State.idleExpiry_run s))).minuteClose

theorem StationsSound.stationClockCount {s : State} (h : StationsSound s) : StationsSound (stationClockCount s) := by
  unfold Machine.stationClockCount
  split
  · have counted := h.settle.countAll
    exact StationsSound.postEach (s := { s.settle.countAll with sensing := sampleExpiry .. }) counted _
  · exact h

theorem StationsSound.powerOn (s : State) (held : Bool) (f t d : LevelPair) : StationsSound (powerOn held f t d s) := by
  rw [powerOn_frame]
  exact .of_idle rfl

theorem StationsSound.restart (s : State) (p : Port) : StationsSound (restart p s).1 :=
  .of_idle (congrArg RunUnit.ctx (State.postAll_run ..))

theorem StationsSound.endRun (s : State) (c : RunContext) (r : RunResult) (way : Param) : StationsSound (s.endRun c r way) :=
  .of_idle (congrArg RunUnit.ctx (State.postAll_run ..))

theorem saveCompletion_run (s : State) : (saveCompletion s).run = s.run := by
  unfold saveCompletion
  split <;> simp

/-! ### Requests -/

/-- The requests that reach the run unit. -/
def reachesRun (i : Instr) : Bool :=
  match i with
  | .clearPort _ | .restart _ | .setClock _ _ | .openRun _ _ _ _ | .takeRun _ => true
  | _ => decide (runStatesOf i ≠ [])

/-- Every other request leaves the run unit as it is, whatever it answers: the cases go by the checks that stand before the answer. -/
theorem request_run {i : Instr} {r : Request} (h : requestOf i = some r) (other : reachesRun i = false) (long : Bool) (s : State) :
    (r.act long s).1.run = s.run := by
  have setting : ∀ {f : State → Answer}, (∀ s, (f s).1.run = s.run) → (unlessSaving f s).1.run = s.run :=
    fun h => unlessSaving_view State.run h s
  have editor : ∀ {f : State → Answer} (p : Port), (∀ s, (f s).1.run = s.run) → (asEditor p f s).1.run = s.run :=
    fun p h => asEditor_view State.run (fun _ => rfl) h p s
  cases i <;> cases h
  case clearPort | restart | setClock | openRun | takeRun | markEdgeEnd | beginVertical | markBed | startPoint | stopPoint |
      endVertical | alter | accept | redo | closeRun | abandonRun | resumeRun => cases other
  case markEdgeStart p side _ _ => cases side <;> cases other
  case getPortStatus | getStage | getSensing | getClock | getLogStatus | getTrend | getLogSettings | getRatingStatus | getWarning |
      getWarningSettings | getAckSettings | getOutputs | readPosition | getCounterSettings | getRun | getRunSettings | seekLog |
      setInitialPoint | surfaceMark => rfl
  -- Requests that any port may make at any time.
  case readNotice | saveSettings | readLog | advanceLog | ratingQuery | ratingBegin | ratingCancel | readRating | getAction |
      getPattern | getMeter | readResult | readVertical | outputTest =>
    dsimp only [readNotice, saveSettings, readLog, advanceLog, ratingQuery, ratingBegin, ratingCancel, readRating, getAction,
      getPattern, getMeter, readResult, readVertical, outputTest]
    repeat' split
    all_goals rfl
  case forceLevel | ack =>
    dsimp only [forceLevel, ack, reply, refuse]
    repeat' split
    all_goals simp
  -- Requests of the settings.
  case setFloatStage | setCounterSettings => exact setting fun _ => rfl
  case setNoticeMask | setPressStage | setLogSettings | setAction | setPattern | setRunSettings =>
    refine setting fun s => ?_
    split <;> rfl
  case setSensing | setWarningSettings | setAckSettings | setMeter =>
    refine setting fun s => ?_
    dsimp only
    repeat' split
    all_goals rfl
  -- Requests of the editor of the alternate bank.
  case ratingPoint p _ _ _ =>
    refine editor p fun s => ?_
    dsimp only
    repeat' split
    all_goals rfl
  case ratingTruncate p _ =>
    refine editor p fun s => ?_
    split <;> rfl
  case ratingCommit p =>
    refine editor p fun s => ?_
    repeat' split
    · rfl
    · rfl
    · exact State.commitRating_run ..

theorem StationsSound.clearPort {s : State} (h : StationsSound s) (p : Port) : StationsSound (clearPort p s).1 := by
  have released : (Machine.clearPort p s).1.run = (s.unhold p).run := by
    dsimp only [Machine.clearPort, reply]
    rw [State.release_eq, State.unhold_eq, State.unhold_eq]
    rfl
  refine StationsSound.of_run ?_ released
  unfold State.unhold
  split
  · rename_i c ctx
    split
    · exact h.setCtx ctx rfl rfl
    · exact h
  · exact h

theorem StationsSound.setClock {s : State} (h : StationsSound s) (t : Nat) : StationsSound (setClock t s).1 := by
  unfold Machine.setClock
  split
  · exact h
  · exact (h.of_run (State.deadlineExpiry_run s)).minuteClose.of_run (State.resetClock_run ..)

theorem StationsSound.openRun {s : State} (h : StationsSound s) (p : Port) (meter : Nat) (target : Int) (coeff : Option Int) :
    StationsSound (openRun p meter target coeff s).1 := by
  unfold Machine.openRun
  split
  · rename_i c ctx
    dsimp only [refuse]
    split
    · exact h.setCtx ctx rfl rfl
    · exact h
  · split
    · exact h
    · exact h
    · exact .of_fit rfl .opened

theorem StationsSound.takeRun {s : State} (h : StationsSound s) (p : Port) : StationsSound (takeRun p s).1 := by
  unfold Machine.takeRun
  split
  · exact h
  · rename_i c ctx
    have taken : StationsSound (s.setCtx { c.touch s.clock.time with holder := some p }) := h.setCtx ctx rfl rfl
    dsimp only
    repeat' split
    · exact taken
    · exact taken
    · exact taken.postTo _ _
    · exact h

section Holder

variable {s : State} (h : StationsSound s) (p : Port)

include h

/-- A request of the holder starts from the run as it stands (R136). -/
theorem StationsSound.asHolder {f : RunContext → State → Answer}
    (act : ∀ c s, s.run.ctx = some c → StationsSound s → StationsSound (f c s).1) : StationsSound (asHolder p f s).1 := by
  unfold Machine.asHolder
  split
  · exact h
  · rename_i c ctx
    split
    · exact act _ _ rfl (h.setCtx ctx rfl rfl)
    · exact h

theorem StationsSound.markEdgeStart (side : EdgeSide) (depth factor : Int) :
    StationsSound (markEdgeStart p side depth factor s).1 := by
  refine h.asHolder p fun c s ctx h => ?_
  split
  · rename_i opened
    refine .of_fit rfl ?_
    exact (stationsOf_append ..).symm ▸ (h.fit_of_phase ctx opened).startEdge _
  · exact h
  · exact h
  · exact h

theorem StationsSound.beginVertical : StationsSound (beginVertical p s).1 := by
  refine h.asHolder p fun c s ctx h => ?_
  split
  · rename_i ready
    have fit := h.fit_of_phase ctx ready
    dsimp only
    split
    · exact h
    · rename_i room
      split
      · rename_i inOrder
        exact .of_fit rfl (fit.beginVertical room inOrder)
      · exact h
  · exact h

theorem StationsSound.accept : StationsSound (accept p s).1 := by
  refine h.asHolder p fun c s ctx h => ?_
  split
  · rename_i v review
    have fit := h.fit_of_phase ctx review
    split
    · exact h
    · split
      · refine StationsSound.postAll (.of_fit rfl ?_) _
        exact (Sums.finalise_joined ..).symm ▸ fit.accept
      · exact h
  · exact h

theorem StationsSound.markEdgeEnd (depth factor : Int) : StationsSound (markEdgeEnd p depth factor s).1 := by
  refine h.asHolder p fun c s ctx h => ?_
  split
  · rename_i ready
    have fit := h.fit_of_phase ctx ready
    dsimp only
    split
    · exact h
    · rename_i enough
      split
      · rename_i inOrder
        refine .of_fit rfl ?_
        exact ((Sums.finalise_stations ..).trans (Sums.finalise_joined ..)).symm ▸ fit.endEdge enough inOrder
      · exact h
  · exact h

theorem StationsSound.markBed : StationsSound (markBed p s).1 := by
  refine h.asHolder p fun c s ctx h => ?_
  split
  · rename_i v sounding
    exact h.move ctx sounding rfl rfl nofun nofun
  · exact h

theorem StationsSound.startPoint (fraction : Nat) : StationsSound (startPoint p fraction s).1 := by
  refine h.asHolder p fun c s ctx h => ?_
  split
  · rename_i v points
    repeat' split
    · exact h
    · exact h
    · exact StationsSound.move (s := s.startExposure ..) h ctx points rfl rfl nofun nofun
  · exact h

theorem StationsSound.stopPoint : StationsSound (stopPoint p s).1 := by
  refine h.asHolder p fun c s ctx h => ?_
  split
  · rename_i exposing _
    exact StationsSound.move (s := s.endExposure _) h ctx exposing rfl rfl nofun nofun
  · exact h

theorem StationsSound.endVertical (method : Code Method) (angle : Int) : StationsSound (endVertical p method angle s).1 := by
  refine h.asHolder p fun c s ctx h => ?_
  split
  · rename_i v points
    split
    · exact h
    · exact h.move ctx points rfl rfl nofun nofun
  · exact h

theorem StationsSound.alter (a : AlterArgs) : StationsSound (alter p a s).1 := by
  refine h.asHolder p fun c s ctx h => ?_
  split
  · rename_i v review
    split
    · exact h
    · exact h.move ctx review rfl rfl nofun nofun
  · exact h

theorem StationsSound.redo (keepDepth : Code Bool) : StationsSound (redo p keepDepth s).1 := by
  refine h.asHolder p fun c s ctx h => ?_
  split
  · rename_i v review
    dsimp only
    split
    · exact h
    · exact h.move ctx review rfl rfl nofun nofun
    · exact h.move ctx review rfl rfl nofun nofun
  · exact h

theorem StationsSound.resumeRun : StationsSound (resumeRun p s).1 := by
  refine h.asHolder p fun c s ctx h => ?_
  split
  · rename_i r retrieving
    split
    · exact h
    · exact h.move (d := { c with phase := .rest r }) ctx retrieving rfl rfl nofun nofun
  · exact h

theorem StationsSound.closeRun : StationsSound (closeRun p s).1 := by
  refine h.asHolder p fun c s ctx h => ?_
  split
  · exact .endRun _ _ _ _
  · exact h

theorem StationsSound.abandonRun : StationsSound (abandonRun p s).1 := h.asHolder p fun _ _ _ _ => .endRun _ _ _ _

end Holder

/-- Every request keeps the stations of an open run in order. -/
theorem StationsSound.request {i : Instr} {r : Request} (hr : requestOf i = some r) (long : Bool) {s : State}
    (h : StationsSound s) : StationsSound (r.act long s).1 := by
  cases reaches : reachesRun i with
  | false => exact h.of_run (request_run hr reaches long s)
  | true =>
    cases i
    case clearPort => cases hr; exact h.clearPort _
    case restart => cases hr; exact .restart _ _
    case setClock => cases hr; exact h.setClock _
    case openRun => cases hr; exact h.openRun _ _ _ _
    case takeRun => cases hr; exact h.takeRun _
    case markEdgeStart => cases hr; exact h.markEdgeStart _ _ _ _
    case beginVertical => cases hr; exact h.beginVertical _
    case accept => cases hr; exact h.accept _
    case markEdgeEnd => cases hr; exact h.markEdgeEnd _ _ _
    case markBed => cases hr; exact h.markBed _
    case startPoint => cases hr; exact h.startPoint _ _
    case stopPoint => cases hr; exact h.stopPoint _
    case endVertical => cases hr; exact h.endVertical _ _ _
    case alter => cases hr; exact h.alter _ _
    case redo => cases hr; exact h.redo _ _
    case closeRun => cases hr; exact h.closeRun _
    case abandonRun => cases hr; exact h.abandonRun _
    case resumeRun => cases hr; exact h.resumeRun _
    all_goals cases reaches

/-! ### Every command -/

theorem StationsSound.exec {i : Instr} {s t : State} (h : StationsSound s) (e : exec i s = .next t) : StationsSound t :=
  exec_keeps (Inv := StationsSound)
    (stamp := fun _ _ h => h)
    (place := fun _ _ _ h => h)
    (exchange := fun _ _ _ h => h)
    (release := fun _ _ _ _ h => h)
    (request := fun _ _ long _ hr _ h => h.request hr long)
    (count := fun _ h => h.stationClockCount)
    (close := fun _ h => h.minuteClose)
    (sensing := fun _ _ _ h => h)
    (cableway := fun _ _ _ h => h)
    (meter := fun _ ms h => h.exposureExpiry ms true)
    (expose := fun _ ms waits h => h.exposureExpiry ms waits)
    (phase := fun _ _ _ h => h)
    (idle := fun s h => h.of_run s.idleExpiry_run)
    (deadline := fun s h => h.of_run s.deadlineExpiry_run)
    (completion := fun s h => h.of_run (saveCompletion_run s))
    (on := fun s held f t d _ => .powerOn s held f t d)
    (loss := fun _ h => h)
    h e

/-- Settles O12: each change of the list brings a station that lies beyond it, and every other change of a run keeps the stations of
the list and of the vertical under work. -/
theorem stepKeepsStationsSound : Obligations.StepKeepsStationsSound := by
  intro s t h e
  unfold step at e
  split at e
  · cases e
    exact h
  · rename_i c rest _
    exact StationsSound.exec (s := { s with pending := rest }) h e

end Sys2Proof.Machine
end

section
/-! The claim of the run: the checks that stand before every run request of the holder (O43), OPEN_RUN (O41) and TAKE_RUN (O42). -/
namespace Sys2Proof.Machine

/-! ### The checks of a run request -/

section Claim

variable {s : State} {p : Port}

theorem asHolder_of_idle (idle : s.run.ctx = none) (f : RunContext → State → Answer) : asHolder p f s = refuse s .wrongState := by
  unfold asHolder
  rw [idle]

theorem asHolder_of_other {c : RunContext} (ctx : s.run.ctx = some c) (other : c.holder ≠ some p)
    (f : RunContext → State → Answer) : asHolder p f s = refuse s .notHolder := by
  unfold asHolder
  rw [ctx]
  exact if_neg other

end Claim

/-- A run request that needs the claim is a request of the holder, which answers WRONG_STATE in every state but its own (R133). -/
theorem runRequest_asHolder {i : Instr} {r : Request} (hr : requestOf i = some r) (claims : runStatesOf i ≠ []) :
    ∃ f, r.act false = asHolder r.port f ∧ ∀ c s, c.phase.state ∉ runStatesOf i → f c s = refuse s .wrongState := by
  cases i <;> cases hr
  case abandonRun =>
    dsimp only [abandonRun]
    refine ⟨_, rfl, fun c s other => absurd ?_ other⟩
    cases c.phase with
    | rest r => cases r <;> simp [runStatesOf, RunPhase.state, Rest.state]
    | opened | exposing _ _ | retrieving _ | finished => simp [runStatesOf, RunPhase.state]
  case markEdgeStart p side _ _ =>
    dsimp only [markEdgeStart]
    refine ⟨_, rfl, fun c s other => ?_⟩
    split
    case h_4 => rfl
    all_goals
      rename_i phase
      simp [runStatesOf, phase, RunPhase.state, Rest.state] at other
  case beginVertical | markBed | startPoint | endVertical | alter | accept | redo | closeRun | markEdgeEnd | resumeRun =>
    dsimp only [beginVertical, markBed, startPoint, endVertical, alter, accept, redo, closeRun, markEdgeEnd, resumeRun]
    refine ⟨_, rfl, fun c s other => ?_⟩
    split
    · rename_i phase
      rw [phase] at other
      exact absurd (List.mem_singleton.2 rfl) other
    · rfl
  case stopPoint =>
    dsimp only [stopPoint]
    refine ⟨_, rfl, fun c s other => ?_⟩
    split
    · rename_i phase _
      rw [phase] at other
      exact absurd (List.mem_singleton.2 rfl) other
    · rfl
  all_goals exact absurd rfl claims

/-- Settles O43: every such request is a request of the holder (`runRequest_asHolder`). -/
theorem runRequestChecks : Obligations.RunRequestChecks := by
  intro i r s hr claims taken
  obtain ⟨f, act, outside⟩ := runRequest_asHolder hr claims
  refine ⟨fun idle => ?idle, fun c ctx => ⟨fun other => ?other, fun holder state => ?holder⟩⟩
  case idle => exact exec_refused hr taken ((congrFun act _).trans (asHolder_of_idle (s := s.stamp r.port) idle f))
  case other => exact exec_refused hr taken ((congrFun act _).trans (asHolder_of_other (s := s.stamp r.port) ctx other f))
  case holder =>
    rw [State.runState_of_ctx ctx] at state
    have holds : (s.stamp r.port).holds r.port c := ⟨ctx, holder⟩
    exact exec_heard_refused hr taken ((congrFun act _).trans ((asHolder_of_holds holds f).trans (outside _ _ state)))

/-! ### OPEN_RUN -/

section OpenRun

variable {p : Port} {meter : Nat} {target : Int} {coeff : Option Int} {s : State}

theorem openRun_open {c : RunContext} (ctx : s.run.ctx = some c) :
    openRun p meter target coeff s =
      refuse (if c.holder = some p then s.setCtx (c.heard s.clock.time) else s) .wrongState := by
  unfold openRun
  rw [ctx]
  rfl

variable (idle : s.run.ctx = none)

include idle

theorem openRun_stageless (stage : s.sensing.record.sample.value = none) :
    openRun p meter target coeff s = refuse s .wrongState := by
  unfold openRun
  rw [idle]
  dsimp only
  rw [stage]

variable (stage : s.sensing.record.sample.value ≠ none)

include stage

theorem openRun_unmetered (outside : meterOf meter = none) : openRun p meter target coeff s = refuse s .badValue := by
  obtain ⟨v, present⟩ := Option.ne_none_iff_exists'.1 stage
  unfold openRun
  rw [idle]
  dsimp only
  rw [present, outside]

/-- OPEN_RUN that is taken forms its context with T and coefficient brought into their ranges (R139). -/
theorem openRun_taken {m : MeterNo} (named : meterOf meter = some m) :
    let c := openedContext s p m (clamp 20000 120000 target).toNat (inRangeOr 700 1000 coeff 860)
    openRun p meter target coeff s = reply (s.openWith c)
      (okStatus (isOutside 20000 120000 target || outOfRange 700 1000 coeff))
      (.runOpened c.number s.readStage m c.target c.coeff) := by
  obtain ⟨v, present⟩ := Option.ne_none_iff_exists'.1 stage
  unfold openRun
  rw [idle]
  dsimp only
  rw [present, named, optClamp_eq]
  rfl

end OpenRun

/-- The run counter wraps from 4,294,967,295 to 1 (R139). -/
theorem nextRunNumber_eq {n : Nat} (width : n ≤ 4294967295) : nextRunNumber n = if n = 4294967295 then 1 else n + 1 := by
  have wraps : two32 - 1 ≤ n ↔ n = 4294967295 := ⟨fun last => Nat.le_antisymm width last, fun last => last.ge⟩
  unfold nextRunNumber
  simp only [wraps]

/-- Settles O41: the refusals in the order of R139, and the context formed. -/
theorem openRun_holds : Obligations.OpenRun := by
  intro p meter target coeff s taken run wrong
  refine ⟨fun c ctx => ⟨fun holder => ?holder, fun other => ?other⟩, fun idle stage => ?stage, fun idle stage outside => ?meter,
    fun idle stage width m named => ?taken⟩
  case holder =>
    exact exec_heard_refused (i := .openRun p meter target coeff) rfl taken
      ((openRun_open (s := s.stamp p) ctx).trans (by rw [if_pos holder]; rfl))
  case other =>
    exact exec_refused (i := .openRun p meter target coeff) rfl taken
      ((openRun_open (s := s.stamp p) ctx).trans (by rw [if_neg other]))
  case stage => exact exec_refused (i := .openRun p meter target coeff) rfl taken (openRun_stageless (s := s.stamp p) idle stage)
  case meter =>
    exact exec_refused (i := .openRun p meter target coeff) rfl taken
      (openRun_unmetered (s := s.stamp p) idle stage ((meterOf_eq_none_iff meter).2 outside))
  case taken =>
    intro n t k held
    have act := openRun_taken (p := p) (target := target) (coeff := coeff) (s := s.stamp p) idle stage named
    rw [openedContext, State.stamp_run, nextRunNumber_eq width] at act
    exact exec_answered (i := .openRun p meter target coeff) (u := { s with
      run := { s.run with
        ctx := some ⟨.opened, n, some p, s.clock.time, 0, m, t, k, none, s.clock.time, s.readStage, false, 0, 0, held⟩
        verticals := [], counter := n, listTotal := none }
      log := { s.log with entry := { s.log.entry with runFlag := true } } }) rfl taken rfl act

/-! ### TAKE_RUN -/

section TakeRun

variable {p : Port} {s : State}

theorem takeRun_idle (idle : s.run.ctx = none) : takeRun p s = refuse s .wrongState := by
  unfold takeRun
  rw [idle]

variable {c : RunContext} (ctx : s.run.ctx = some c)

include ctx

/-- TAKE_RUN by the holder, or while the run is UNHELD (R137). -/
theorem takeRun_free (free : c.holder = some p ∨ c.holder = none) :
    takeRun p s = reply (s.setCtx { c.heard s.clock.time with holder := some p }) .ok .empty := by
  unfold takeRun
  rw [ctx]
  dsimp only
  obtain held | unheld := free
  · rw [held]
    exact if_pos rfl
  · rw [unheld]
    rfl

/-- TAKE_RUN from another holder, by its quiet count (R137). -/
theorem takeRun_held {q : Port} (other : q ≠ p) (held : c.holder = some q) :
    takeRun p s = if 120 ≤ c.quiet then
        reply ((s.setCtx { c.heard s.clock.time with holder := some p }).postTo q
          ⟨.holderLost, s.clock.time, some (.num c.number), some (.port p), some (.num c.quiet), false⟩) .ok .empty
      else reply s .heldByOther (.heldBy q c.quiet) := by
  unfold takeRun
  rw [ctx]
  dsimp only
  rw [held]
  exact if_neg other

end TakeRun

/-- A request that is taken and answered, whose block leaves the ports alone but for one posting to one port. -/
theorem exec_postedTo {i : Instr} {r : Request} {s u : State} {q : Port} {n : Notice} {st : Status} {b : Body}
    (hr : requestOf i = some r) (h : s.takes r.port) (ports : u.ports = s.ports)
    (act : r.act false (s.stamp r.port) = reply (({ u with ports := (s.stamp r.port).ports } : State).postTo q n) st b) :
    exec i s = .next ((u.postTo q n).answered r.port s.clock.time r.code st b) := by
  have heard : { u with ports := (s.stamp r.port).ports } = u.heard r.port s.clock.time := by
    cases u
    cases ports
    rfl
  rw [heard, State.postTo_heard] at act
  rw [exec_of_request hr, State.takeRequest_of_takes h, act, State.answer_heard]

/-- Settles O42: TAKE_RUN by the holder it meets and its quiet count. -/
theorem takeRun_holds : Obligations.TakeRun := by
  intro p s taken run
  refine ⟨fun idle => exec_refused (i := .takeRun p) rfl taken (takeRun_idle (s := s.stamp p) idle), fun c ctx => ?_⟩
  intro claimed
  refine ⟨fun free => ?free, fun q other held => ⟨fun silent => ?silent, fun heard => ?heard⟩⟩
  case free => exact exec_answered (i := .takeRun p) (u := claimed) rfl taken rfl (takeRun_free (s := s.stamp p) ctx free)
  case silent =>
    exact exec_postedTo (i := .takeRun p) (u := claimed) rfl taken rfl
      ((takeRun_held (s := s.stamp p) ctx other held).trans (if_pos silent))
  case heard =>
    exact exec_answered (i := .takeRun p) (u := s) rfl taken rfl
      ((takeRun_held (s := s.stamp p) ctx other held).trans (if_neg (Nat.not_le.2 heard)))

end Sys2Proof.Machine
end

section
/-! END_VERTICAL, ALTER and REDO (O47). -/
namespace Sys2Proof.Machine

/-! ### Fields of ALTER -/

section AlterFields

variable (a : AlterArgs)

/-- ALTER is refused for a method outside the three or an index without a point (R148). -/
theorem alterBad_iff (points : Nat) :
    alterBad a points = true ↔ a.method = some .outside ∨ ∃ i, (a.excl = some i ∨ a.incl = some i) ∧ points ≤ i := by
  simp [alterBad, Option.any_eq_true, or_and_right, exists_or, or_assoc]

/-- The method ALTER leaves: the one it names, or the old one where it names none (R148). -/
theorem alterMethod_eq {field : Option (Code Method)} (inSet : field ≠ some .outside) (old : Option Method) :
    alterMethod field old =
      if field = none then old else [Method.one, .two, .surf].find? (fun m => decide (field = some (.named m))) := by
  match field with
  | none => rfl
  | some .outside => exact absurd rfl inSet
  | some (.named m) => cases m <;> rfl

/-- ALTER brings its depth and its angle into their ranges and marks whether one was outside (R148). -/
theorem alterVertical_eq (v : Vertical) (inSet : a.method ≠ some .outside) :
    let flag := fun (i : Option Nat) (b : Bool) (qs : List Point) => ((i.map (fun j =>
      qs.modify j (fun q => { q with excluded := b }))).getD qs : List Point)
    alterVertical a v = ({ v with
      depth := (a.depth.map (fun d => ⟨clamp 0 30000 d, .altered⟩)).orElse (fun _ => v.depth)
      method := if a.method = none then v.method else [Method.one, .two, .surf].find? (fun m => decide (a.method = some (.named m)))
      angle := (a.angle.map (clamp 500 1000)).orElse (fun _ => v.angle)
      points := flag a.incl false (flag a.excl true v.points) },
      outOfRange 0 30000 a.depth || outOfRange 500 1000 a.angle) := by
  intro flag
  have points : alterPoints a v.points = flag a.incl false (flag a.excl true v.points) := by
    unfold alterPoints
    cases a.excl <;> cases a.incl <;> rfl
  unfold alterVertical
  rw [points, alterMethod_eq inSet]
  cases a.depth <;> cases a.angle <;> rfl

end AlterFields

/-! ### The requests -/

section Review

variable {p : Port} {s : State} {c : RunContext} {v : Vertical} (holds : s.holds p c)

include holds

section EndVertical

variable (phase : c.phase = .rest (.points v)) (angle : Int)

include phase

theorem endVertical_outside : endVertical p .outside angle s = refuse (s.setCtx (c.heard s.clock.time)) .badValue := by
  have heard : (c.heard s.clock.time).phase = .rest (.points v) := phase
  unfold endVertical
  rw [asHolder_of_holds holds, heard]

/-- END_VERTICAL takes the method and the angle in its range (R147). -/
theorem endVertical_points (m : Method) :
    let w := { v with method := some m, angle := some (clamp 500 1000 angle) }
    endVertical p (.named m) angle s = reply (s.setCtx { c.heard s.clock.time with phase := .rest (.review w) })
      (okStatus (isOutside 500 1000 angle)) (.vertical w w.complete) := by
  have heard : (c.heard s.clock.time).phase = .rest (.points v) := phase
  unfold endVertical
  rw [asHolder_of_holds holds, heard]
  rfl

end EndVertical

variable (phase : c.phase = .rest (.review v))

include phase

/-- ALTER in REVIEW: refused as a whole, or taken as a whole (R148). -/
theorem alter_review {a : AlterArgs} {w : Vertical} {clamped : Bool} (altered : alterVertical a v = (w, clamped)) :
    alter p a s = if alterBad a v.points.length then refuse (s.setCtx (c.heard s.clock.time)) .badValue
      else reply (s.setCtx { c.heard s.clock.time with phase := .rest (.review w) }) (okStatus clamped)
        (.vertical w w.complete) := by
  have heard : (c.heard s.clock.time).phase = .rest (.review v) := phase
  unfold alter
  rw [asHolder_of_holds holds, heard]
  dsimp only
  rw [altered]
  rfl

theorem redo_outside : redo p .outside s = refuse (s.setCtx (c.heard s.clock.time)) .badValue := by
  have heard : (c.heard s.clock.time).phase = .rest (.review v) := phase
  unfold redo
  rw [asHolder_of_holds holds, heard]

/-- REDO in REVIEW, with the depth kept or dropped (R151). -/
theorem redo_review (keep : Bool) :
    let w := { v with points := [], method := none, angle := none }
    redo p (.named keep) s = reply (s.setCtx { c.heard s.clock.time with
      phase := .rest (if keep then .points w else .sounding { w with depth := none }) }) .ok .empty := by
  have heard : (c.heard s.clock.time).phase = .rest (.review v) := phase
  unfold redo
  rw [asHolder_of_holds holds, heard]
  cases keep <;> rfl

end Review

/-- Settles O47: the three requests by their own lemmas, and the fields of ALTER by `alterVertical_eq`. -/
theorem reviewRequests : Obligations.ReviewRequests := by
  intro p s c v taken holds h rests bad
  have holds_stamp : (s.stamp p).holds p c := holds
  refine ⟨fun angle phase => ⟨?endOutside, fun m => ?endNamed⟩, fun a phase => ?alter, fun phase => ?redo⟩
  case endOutside =>
    exact exec_heard_refused (i := .endVertical p .outside angle) rfl taken (endVertical_outside holds_stamp phase angle)
  case endNamed =>
    intro w
    exact exec_answered (i := .endVertical p (.named m) angle) (u := s.setCtx { h with phase := .rest (.review w) }) rfl taken rfl
      (endVertical_points holds_stamp phase angle m)
  case alter =>
    intro flag refused w
    have checked : alterBad a v.points.length = true ↔ refused := alterBad_iff ..
    refine ⟨fun outside => ?_, fun within => ?_⟩
    · exact exec_heard_refused (i := .alter p a) rfl taken
        ((alter_review holds_stamp phase rfl).trans (if_pos (checked.2 outside)))
    · have altered : alterVertical a v = (w, outOfRange 0 30000 a.depth || outOfRange 500 1000 a.angle) :=
        alterVertical_eq a v fun outside => within (.inl outside)
      exact exec_answered (i := .alter p a) (u := s.setCtx { h with phase := .rest (.review w) }) rfl taken rfl
        ((alter_review holds_stamp phase altered).trans (if_neg (checked.not.2 within)))
  case redo =>
    intro w
    refine ⟨?_, ?_, ?_⟩
    · exact exec_heard_refused (i := .redo p .outside) rfl taken (redo_outside holds_stamp phase)
    · exact exec_answered (i := .redo p (.named true)) (u := s.setCtx { h with phase := .rest (.points w) }) rfl taken rfl
        (redo_review holds_stamp phase true)
    · exact exec_answered (i := .redo p (.named false)) (u := s.setCtx { h with
        phase := .rest (.sounding { w with depth := none }) }) rfl taken rfl (redo_review holds_stamp phase false)

end Sys2Proof.Machine
end

section
/-! ACCEPT (O49): the vertical under work joins the list, and the vertical before it is finalised with it as successor. -/
namespace Sys2Proof.Machine

/-! ### The vertical before the last -/

section BeforeLast

variable {last next : Vertical} (front : List Vertical) (q a : Int)

/-- A start edge spans the way to the vertical after it, and takes its mean velocity from it (R163, R164). -/
theorem Sums.finalise_startEdge (kind : last.kind = .startEdge) :
    let done := last.finalOver (roundDiv (last.factor.getD 0 * next.mean.getD 0) 1000) |next.station.mm - last.station.mm|
    (Sums.mk (front ++ [last, next]) q a).finalise front.length =
      ⟨front ++ [done, next], q + done.partialQ.getD 0, a + done.partialA.getD 0⟩ := by
  intro done
  have found : (front ++ [last, next])[front.length]? = some last := by simp
  have mean : meanAt (front ++ [last, next]) (front.length + 1) = next.mean.getD 0 := meanAt_append front _ 1
  have here : stationAt (front ++ [last, next]) front.length = last.station.mm := stationAt_append front _ 0
  have after : stationAt (front ++ [last, next]) (front.length + 1) = next.station.mm := stationAt_append front _ 1
  have values : finalValues (front ++ [last, next]) last front.length = done := by
    rw [finalValues_eq]
    unfold finalMean spanAt
    rw [kind]
    dsimp only
    rw [mean, here, after]
    rfl
  unfold Sums.finalise
  dsimp only
  rw [found]
  dsimp only
  rw [values]
  simp

/-- The vertical before the last is finalised with the last as successor, by its kind (R162 to R165). -/
theorem Sums.finalise_beforeLast (known : last.kind = .startEdge ∨ (last.kind = .interior ∧ front ≠ [])) :
    let before := (front.getLast?.map (fun x => x.station.mm)).getD 0
    let span := if last.kind = .startEdge then |next.station.mm - last.station.mm| else |next.station.mm - before|
    let mean := if last.kind = .startEdge then roundDiv (last.factor.getD 0 * next.mean.getD 0) 1000 else last.mean.getD 0
    let done := last.finalOver mean span
    (Sums.mk (front ++ [last, next]) q a).finalise front.length =
      ⟨front ++ [done, next], q + done.partialQ.getD 0, a + done.partialA.getD 0⟩ := by
  dsimp only
  obtain edge | ⟨interior, filled⟩ := known
  · rw [if_pos edge, if_pos edge]
    exact Sums.finalise_startEdge front q a edge
  · have inner : last.kind ≠ .startEdge := by rw [interior]; nofun
    obtain rfl | ⟨front, prior, rfl⟩ := front.eq_nil_or_concat'
    · exact absurd rfl filled
    · rw [if_neg inner, if_neg inner, List.getLast?_concat, List.append_assoc, List.length_append, List.append_assoc]
      exact Sums.finalise_interior front prior q a interior

end BeforeLast

/-! ### ACCEPT -/

/-- What a SOUNDED depth tells, and no other depth. -/
theorem depthSource_getD (depth : Option VerticalDepth) {f : DepthSource → Bool}
    (g : Bool → Option FaultCause → Option FaultCause → Bool)
    (sounded : ∀ k a b, f (.sounded k a b) = g k a b) (altered : f .altered = false) (given : f .given = false) :
    (depth.map (fun d => f d.source)).getD false =
      depth.any (fun d => match d.source with | .sounded k a b => g k a b | _ => false) := by
  match depth with
  | none => rfl
  | some ⟨_, .sounded k a b⟩ => exact sounded k a b
  | some ⟨_, .altered⟩ => exact altered
  | some ⟨_, .given⟩ => exact given

section Accept

variable {p : Port} {s : State} {c : RunContext} {v : Vertical} (holds : s.holds p c) (phase : c.phase = .rest (.review v))

include holds phase

theorem accept_unnamed (method : v.method = none) :
    accept p s = reply (s.setCtx (c.heard s.clock.time)) .incomplete (.missing []) := by
  have heard : (c.heard s.clock.time).phase = .rest (.review v) := phase
  unfold accept
  rw [asHolder_of_holds holds, heard]
  dsimp only
  rw [method]

/-- ACCEPT in REVIEW with a method: INCOMPLETE with the fractions missing, or the act of R150. -/
theorem accept_named {m : Method} (method : v.method = some m) :
    let w := acceptedVertical c.coeff m v s.readStage
    let x := Sums.finalise ⟨s.run.verticals ++ [w], c.qSum, c.aSum⟩ (s.run.verticals.length - 1)
    accept p s = if v.complete then
        reply ((s.setSums { c.heard s.clock.time with
          phase := .rest .ready, heldStage := c.heldStage || s.readStage.heldStage } x).postAll
          ⟨.verticalAccepted, s.clock.time, some (.num c.number), some (.num v.index), w.mean.map Param.num, false⟩) .ok
          (.accepted w x.q x.a)
      else reply (s.setCtx (c.heard s.clock.time)) .incomplete (.missing (missingFractions m v.points)) := by
  have heard : (c.heard s.clock.time).phase = .rest (.review v) := phase
  unfold accept
  rw [asHolder_of_holds holds, heard]
  dsimp only
  rw [method]
  rfl

/-- ACCEPT that is taken, on the list with the vertical it finalises (R150, R165). -/
theorem accept_complete {m : Method} (method : v.method = some m) (complete : v.complete = true) {front : List Vertical}
    {last w : Vertical} {x : Sums} (list : s.run.verticals = front ++ [last])
    (accepted : acceptedVertical c.coeff m v s.readStage = w)
    (sums : Sums.finalise ⟨front ++ [last, w], c.qSum, c.aSum⟩ front.length = x) :
    accept p s = reply ((s.setSums { c.heard s.clock.time with
        phase := .rest .ready, heldStage := c.heldStage || s.readStage.heldStage } x).postAll
        ⟨.verticalAccepted, s.clock.time, some (.num c.number), some (.num v.index), w.mean.map Param.num, false⟩) .ok
        (.accepted w x.q x.a) := by
  have length : (front ++ [last]).length - 1 = front.length := by simp
  have act := (accept_named holds phase method).trans (if_pos complete)
  rwa [accepted, list, length, List.append_assoc, List.singleton_append, sums] at act

end Accept

/-- Settles O49: what is missing by the method, or the whole act of R150 with the finalisation of the vertical before. -/
theorem acceptVertical : Obligations.AcceptVertical := by
  intro p s c v taken holds phase h
  have holds_stamp : (s.stamp p).holds p c := holds
  refine ⟨fun unnamed => ?unnamed, fun m method => ⟨fun incomplete => ?incomplete, fun complete front last list => ?complete⟩⟩
  case unnamed =>
    exact exec_answered (i := .accept p) (u := s.setCtx h) rfl taken rfl (accept_unnamed holds_stamp phase unnamed)
  case incomplete =>
    have act := (accept_named holds_stamp phase method).trans (if_neg (Bool.eq_false_iff.1 incomplete))
    have needed : missingFractions m v.points = (match m with
        | .one => [Fraction.six] | .two => [.two, .eight] | .surf => [.surface]).filter
        (fun f => (usedPoint f v.points).isNone) := by cases m <;> rfl
    rw [needed] at act
    exact exec_answered (i := .accept p) (u := s.setCtx h) rfl taken rfl act
  case complete =>
    intro held mean used sounded marks w before span d lastMean done known
    have faulty := depthSource_getD v.depth (f := DepthSource.faulty) (fun _ a b => a.isSome || b.isSome) (fun _ _ _ => rfl) rfl rfl
    have clamped := depthSource_getD v.depth (f := DepthSource.clamped) (fun k _ _ => k) (fun _ _ _ => rfl) rfl rfl
    have marked : interiorMarks v s.readStage = marks := by
      unfold interiorMarks
      rw [faulty, clamped]
      rfl
    have accepted : acceptedVertical c.coeff m v s.readStage = w := by rw [acceptedVertical, marked]
    have sums := Sums.finalise_beforeLast (next := w) front c.qSum c.aSum known
    have act := accept_complete holds_stamp phase method complete list accepted sums
    exact exec_posted (i := .accept p) (u := { s with run := { s.run with
      ctx := some { h with
        phase := .rest .ready, heldStage := c.heldStage || held
        qSum := c.qSum + roundDiv (lastMean * d * span) 2000, aSum := c.aSum + roundDiv (d * span) 2 }
      verticals := front ++ [done, w] } }) rfl taken rfl act

end Sys2Proof.Machine
end

section
/-! The finalised sums of an open run (O11). The invariant asks an open run for its list with the two sums, its course, and the
partial values of the vertical under work: its account. OPEN_RUN, MARK_EDGE, BEGIN_VERTICAL, ACCEPT and the end of a run, by a request
or by a start of the part, change the account; every other command leaves it as it is. -/
namespace Sys2Proof.Machine

/-! ### The account of a run -/

/-- The partial discharge and area of a vertical. -/
def Vertical.partials (v : Vertical) : Option Int × Option Int := (v.partialQ, v.partialA)

/-- The course of an open run: before its start edge, under way with the partial values of the vertical under work, or after its end
edge. -/
inductive Course where
  | opened
  | underWay (work : Option (Option Int × Option Int))
  | finished

/-- The course a phase stands for. -/
def RunPhase.course : RunPhase → Course
  | .opened => .opened
  | .rest r => .underWay (r.work.map Vertical.partials)
  | .exposing v _ => .underWay (some v.partials)
  | .retrieving r => .underWay (r.work.map Vertical.partials)
  | .finished => .finished

/-- The account of a run: the course of an open run, and its list with the finalised sums. -/
def RunUnit.account (r : RunUnit) : Option (Course × Sums) :=
  r.ctx.map fun c => (c.phase.course, ⟨r.verticals, c.qSum, c.aSum⟩)

theorem RunUnit.account_of_ctx {r : RunUnit} {c : RunContext} (ctx : r.ctx = some c) :
    r.account = some (c.phase.course, ⟨r.verticals, c.qSum, c.aSum⟩) := congrArg (Option.map _) ctx

theorem RunUnit.account_of_idle {r : RunUnit} (idle : r.ctx = none) : r.account = none := congrArg (Option.map _) idle

/-- The sums are those over the partial values of the list (R165). -/
def Sums.Balanced (x : Sums) : Prop := x.q = partialQSum x.verticals ∧ x.a = partialASum x.verticals

/-- Every vertical of a list but the last is finalised (R165). -/
def LastOpen (vs : List Vertical) : Prop :=
  ∃ front last, vs = front ++ [last] ∧ (∀ v ∈ front, v.finalised) ∧ last.unfinalised

/-- The verticals that are finalised on a course of a run (R165). -/
def Course.Finalises (k : Course) (vs : List Vertical) : Prop :=
  match k with
  | .opened => vs = []
  | .underWay work => (∀ x, work = some x → x = (none, none)) ∧ LastOpen vs
  | .finished => ∀ v ∈ vs, v.finalised

theorem Course.finalises_idle (vs : List Vertical) : (Course.underWay none).Finalises vs ↔ LastOpen vs := by simp [Course.Finalises]

/-- What O11 asks of the account of a run (`sumsSound_iff`). -/
structure SumsFit (k : Course) (x : Sums) : Prop where
  balanced : x.Balanced
  finalises : k.Finalises x.verticals

theorem Vertical.partials_eq_none (v : Vertical) : v.partials = (none, none) ↔ v.unfinalised := Prod.mk_inj

/-- What `SumsSound` says by the run state is what the course of the phase asks. -/
theorem RunPhase.course_finalises (ph : RunPhase) (vs : List Vertical) :
    ph.course.Finalises vs ↔ (∀ v, ph.work = some v → v.unfinalised) ∧ (ph = .opened → vs = []) ∧
      (ph = .finished → ∀ v ∈ vs, v.finalised) ∧ (ph ≠ .opened → ph ≠ .finished → LastOpen vs) := by
  cases ph with
  | opened | finished => simp [RunPhase.course, Course.Finalises, RunPhase.work]
  | rest r | retrieving r => simp [RunPhase.course, Course.Finalises, RunPhase.work, Vertical.partials_eq_none]
  | exposing v f => simp [RunPhase.course, Course.Finalises, RunPhase.work, Vertical.partials_eq_none]

theorem sumsSound_iff (s : State) : SumsSound s ↔ ∀ k x, s.run.account = some (k, x) → SumsFit k x := by
  constructor
  · intro h k x account
    obtain ⟨c, ctx, here⟩ := Option.map_eq_some_iff.1 account
    cases here
    obtain ⟨balanced, finalises⟩ := h c ctx
    exact ⟨balanced, (RunPhase.course_finalises ..).2 finalises⟩
  · intro h c ctx
    obtain ⟨balanced, finalises⟩ := h _ _ (RunUnit.account_of_ctx ctx)
    exact ⟨balanced, (RunPhase.course_finalises ..).1 finalises⟩

theorem SumsSound.of_account {s t : State} (h : SumsSound s) (same : t.run.account = s.run.account) : SumsSound t := by
  rw [sumsSound_iff] at h ⊢
  rw [same]
  exact h

theorem SumsSound.of_run {s t : State} (h : SumsSound s) (same : t.run = s.run) : SumsSound t :=
  h.of_account (congrArg RunUnit.account same)

theorem SumsSound.of_idle {s : State} (idle : s.run.ctx = none) : SumsSound s := by
  rw [sumsSound_iff, RunUnit.account_of_idle idle]
  nofun

theorem SumsSound.of_fit {s : State} {k : Course} {x : Sums} (account : s.run.account = some (k, x)) (fit : SumsFit k x) :
    SumsSound s := by
  rw [sumsSound_iff, account]
  rintro _ _ ⟨⟩
  exact fit

theorem SumsSound.fit {s : State} {c : RunContext} {ph : RunPhase} (h : SumsSound s) (ctx : s.run.ctx = some c)
    (phase : c.phase = ph) : SumsFit ph.course ⟨s.run.verticals, c.qSum, c.aSum⟩ :=
  phase ▸ (sumsSound_iff s).1 h _ _ (RunUnit.account_of_ctx ctx)

/-- A context replaced by one of the same course and sums leaves the account. -/
theorem State.setCtx_account {s : State} {c d : RunContext} {ph : RunPhase} (ctx : s.run.ctx = some c) (phase : c.phase = ph)
    (course : d.phase.course = ph.course) (q : d.qSum = c.qSum) (a : d.aSum = c.aSum) :
    (s.setCtx d).run.account = s.run.account := by
  have before := RunUnit.account_of_ctx ctx
  have after : (s.setCtx d).run.account = some (d.phase.course, ⟨s.run.verticals, d.qSum, d.aSum⟩) := rfl
  rw [before, after, course, phase, q, a]

/-! ### Finalisation -/

/-- A vertical without partial values that joins the list leaves the sums (R165). -/
theorem Sums.Balanced.join {vs : List Vertical} {q a : Int} (h : (Sums.mk vs q a).Balanced) {v : Vertical} (fresh : v.unfinalised) :
    (Sums.mk (vs ++ [v]) q a).Balanced := by
  obtain ⟨hq, ha⟩ := h
  obtain ⟨noQ, noA⟩ := fresh
  constructor
  · simpa [partialQSum, noQ] using hq
  · simpa [partialASum, noA] using ha

/-- The vertical after a front of the list takes its values, and they are added to the sums, whatever they are (R165). -/
theorem Sums.finalise_after (front rest : List Vertical) (v : Vertical) (q a : Int) :
    let w := finalValues (front ++ v :: rest) v front.length
    (Sums.mk (front ++ v :: rest) q a).finalise front.length =
      ⟨front ++ w :: rest, q + w.partialQ.getD 0, a + w.partialA.getD 0⟩ := by
  unfold Sums.finalise
  simp

/-- A vertical without partial values that is finalised takes its values, and the sums take them too (R165). -/
theorem Sums.Balanced.finalise {front rest : List Vertical} {v : Vertical} {q a : Int}
    (h : (Sums.mk (front ++ v :: rest) q a).Balanced) (fresh : v.unfinalised) :
    ((Sums.mk (front ++ v :: rest) q a).finalise front.length).Balanced ∧
      ∃ w : Vertical, w.finalised ∧ ((Sums.mk (front ++ v :: rest) q a).finalise front.length).verticals = front ++ w :: rest := by
  obtain ⟨hq, ha⟩ := h
  obtain ⟨noQ, noA⟩ := fresh
  rw [Sums.finalise_after]
  refine ⟨⟨?_, ?_⟩, _, ⟨Option.some_ne_none _, Option.some_ne_none _⟩, rfl⟩
  · simp only [partialQSum, List.map_append, List.map_cons, List.sum_append, List.sum_cons, noQ, Option.getD_none] at hq ⊢
    omega
  · simp only [partialASum, List.map_append, List.map_cons, List.sum_append, List.sum_cons, noA, Option.getD_none] at ha ⊢
    omega

theorem forall_finalised_concat {front : List Vertical} {v : Vertical} (done : ∀ w ∈ front, w.finalised) (last : v.finalised) :
    ∀ w ∈ front ++ [v], w.finalised := by
  simpa [or_imp, forall_and] using ⟨done, last⟩

/-- OPEN_RUN starts with an empty list and sums of 0 (R139). -/
theorem SumsFit.opened : SumsFit .opened ⟨[], 0, 0⟩ := ⟨⟨rfl, rfl⟩, rfl⟩

/-- MARK_EDGE START brings the first vertical, which is not finalised (R142, R165). -/
theorem SumsFit.startEdge {vs : List Vertical} {q a : Int} (h : SumsFit .opened ⟨vs, q, a⟩) {e : Vertical} (fresh : e.unfinalised) :
    SumsFit (.underWay none) ⟨vs ++ [e], q, a⟩ := by
  obtain ⟨balanced, empty⟩ := h
  obtain rfl : vs = [] := empty
  exact ⟨balanced.join fresh, (Course.finalises_idle _).2 ⟨[], e, rfl, List.forall_mem_nil _, fresh⟩⟩

/-- BEGIN_VERTICAL brings a vertical under work without partial values (R143). -/
theorem SumsFit.beginVertical {x : Sums} (h : SumsFit (.underWay none) x) : SumsFit (.underWay (some (none, none))) x := by
  obtain ⟨balanced, -, list⟩ := h
  exact ⟨balanced, fun _ e => (Option.some.inj e).symm, list⟩

/-- A vertical joins the list, and the vertical before it is finalised (R165). -/
theorem SumsFit.join {work : Option (Option Int × Option Int)} {vs : List Vertical} {q a : Int}
    (h : SumsFit (.underWay work) ⟨vs, q, a⟩) {v : Vertical} (fresh : v.unfinalised) :
    let x := (Sums.mk (vs ++ [v]) q a).finalise (vs.length - 1)
    x.Balanced ∧ ∃ front, x.verticals = front ++ [v] ∧ front.length = vs.length ∧ ∀ w ∈ front, w.finalised := by
  obtain ⟨balanced, -, front, last, rfl, done, lastOpen⟩ := h
  have joined := balanced.join fresh
  have index : (front ++ [last]).length - 1 = front.length := by simp
  have list : front ++ [last] ++ [v] = front ++ last :: [v] := List.append_assoc ..
  rw [index]
  rw [list] at joined ⊢
  obtain ⟨balanced, w, final, verticals⟩ := joined.finalise lastOpen
  exact ⟨balanced, front ++ [w], verticals.trans (List.append_cons ..), by simp, forall_finalised_concat done final⟩

/-- ACCEPT finalises the vertical before the accepted one (R150, R165). -/
theorem SumsFit.accept {work : Option (Option Int × Option Int)} {vs : List Vertical} {q a : Int}
    (h : SumsFit (.underWay work) ⟨vs, q, a⟩) {v : Vertical} (fresh : v.unfinalised) :
    SumsFit (.underWay none) ((Sums.mk (vs ++ [v]) q a).finalise (vs.length - 1)) := by
  obtain ⟨balanced, front, verticals, -, done⟩ := h.join fresh
  exact ⟨balanced, (Course.finalises_idle _).2 ⟨front, v, verticals, done, fresh⟩⟩

/-- MARK_EDGE END finalises the last interior vertical, then the end edge (R152, R165). -/
theorem SumsFit.endEdge {work : Option (Option Int × Option Int)} {vs : List Vertical} {q a : Int}
    (h : SumsFit (.underWay work) ⟨vs, q, a⟩) {e : Vertical} (fresh : e.unfinalised) :
    SumsFit .finished (((Sums.mk (vs ++ [e]) q a).finalise (vs.length - 1)).finalise vs.length) := by
  obtain ⟨balanced, front, verticals, length, done⟩ := h.join fresh
  generalize (Sums.mk (vs ++ [e]) q a).finalise (vs.length - 1) = x at balanced verticals
  obtain ⟨_, q, a⟩ := x
  obtain rfl : _ = front ++ [e] := verticals
  rw [← length]
  obtain ⟨balanced, w, final, verticals⟩ := balanced.finalise fresh
  exact ⟨balanced, by rw [Course.Finalises, verticals]; exact forall_finalised_concat done final⟩

/-! ### Events -/

theorem State.expireExposure_account (s : State) : s.expireExposure.run.account = s.run.account := by
  unfold State.expireExposure
  split
  · rfl
  · rename_i x _
    split
    · rfl
    · rename_i c ctx
      split
      · rename_i exposing
        exact State.setCtx_account (s := s.endExposure _) ctx exposing rfl rfl rfl
      · rfl

theorem exposureExpiry_account (ms : Nat) (waits : Bool) (s : State) :
    (exposureExpiry ms waits s).run.account = s.run.account := by
  unfold exposureExpiry
  split
  · exact State.expireExposure_account (s.passMs ms)
  · rfl

/-- A retrieve request leaves the course and the vertical under work, but for the point of an exposure (R155). -/
theorem State.retrieve_account (s : State) (time : Nat) : (s.retrieve time).run.account = s.run.account := by
  unfold State.retrieve
  cases ctx : s.run.ctx with
  | none => rfl
  | some c =>
    dsimp only
    have told (entered : Option RunState) {u : State} (same : u.run.account = s.run.account) :
        (u.postRetrieve c time entered).run.account = s.run.account :=
      (congrArg RunUnit.account (State.postRetrieve_run ..)).trans same
    cases phase : c.phase with
    | opened | finished | retrieving _ => exact told _ rfl
    | rest r => exact told _ (State.setCtx_account ctx phase rfl rfl rfl)
    | exposing v f => cases s.cableway.exposure <;> exact told _ (State.setCtx_account ctx phase rfl rfl rfl)

theorem State.takeEntry_account (s : State) (cls : TriggerClass) (time : Nat) :
    (s.takeEntry cls time).run.account = s.run.account := by
  unfold State.takeEntry State.entryRetrieve
  dsimp only
  split
  · rw [State.retrieve_account]
    simp
  · simp

theorem minuteClose_account (s : State) : (minuteClose s).run.account = s.run.account := by
  unfold minuteClose
  split
  · refine evaluate_keeps (Inv := fun t => t.run.account = s.run.account) (fun _ _ h => h)
      (fun t cls time h => (t.takeEntry_account cls time).trans h) ?_ _ _ _
    exact congrArg RunUnit.account (State.boundaryEntry_run ..)
  · rfl

/-- A count raises the quiet count of a run alone (R136). -/
theorem State.countAll_account (s : State) : s.countAll.run.account = s.run.account := by
  cases ctx : s.run.ctx with
  | none =>
    have idle : s.countAll.run.ctx = none := congrArg (Option.map _) ctx
    rw [RunUnit.account_of_idle idle, RunUnit.account_of_idle ctx]
  | some c =>
    have counted : s.countAll.run.ctx = some c.count := congrArg (Option.map _) ctx
    rw [RunUnit.account_of_ctx counted, RunUnit.account_of_ctx ctx]
    unfold RunContext.count
    split <;> rfl

theorem State.postEach_run (s : State) (ns : List Notice) : (s.postEach ns).run = s.run := by
  induction ns generalizing s with
  | nil => rfl
  | cons n ns ih => exact (ih _).trans (State.postAll_run s n)

theorem stationClockCount_account (s : State) : (stationClockCount s).run.account = s.run.account := by
  unfold stationClockCount
  split
  · calc s.settle.countAll.senseSecond.run.account
      _ = s.settle.countAll.run.account := congrArg RunUnit.account (State.postEach_run ..)
      _ = s.settle.run.account := State.countAll_account _
      _ = s.idleExpiry.deadlineExpiry.run.account := minuteClose_account _
      _ = s.run.account := congrArg RunUnit.account ((State.deadlineExpiry_run _).trans (State.idleExpiry_run s))
  · rfl

theorem powerOn_idle (s : State) (held : Bool) (f t d : LevelPair) : (powerOn held f t d s).run.ctx = none := by
  rw [powerOn_frame]
  rfl

/-! ### Requests that leave the account -/

/-- The requests that change the account of a run. -/
def changesAccount (i : Instr) : Bool :=
  match i with
  | .restart _ | .openRun _ _ _ _ | .markEdgeStart _ _ _ _ | .beginVertical _ | .accept _ | .markEdgeEnd _ _ _ | .closeRun _ |
    .abandonRun _ => true
  | _ => false

theorem clearPort_account (p : Port) (s : State) : (clearPort p s).1.run.account = s.run.account := by
  have released : (clearPort p s).1.run = ((s.setPort p { s.port p with slot := none, queue := [] }).unhold p).run := by
    dsimp only [clearPort, reply]
    split <;> rfl
  rw [released]
  unfold State.unhold
  split
  · rename_i c ctx
    split
    · exact State.setCtx_account (s := s.setPort p _) ctx rfl rfl rfl rfl
    · rfl
  · rfl

theorem setClock_account (t : Nat) (s : State) : (setClock t s).1.run.account = s.run.account := by
  unfold setClock
  split
  · rfl
  · calc ((minuteClose s.deadlineExpiry).resetClock (wire32 t)).run.account
      _ = (minuteClose s.deadlineExpiry).run.account := congrArg RunUnit.account (State.resetClock_run ..)
      _ = s.deadlineExpiry.run.account := minuteClose_account _
      _ = s.run.account := congrArg RunUnit.account (State.deadlineExpiry_run s)

theorem takeRun_account (p : Port) (s : State) : (takeRun p s).1.run.account = s.run.account := by
  unfold takeRun
  split
  · rfl
  · rename_i c ctx
    have taken : (s.setCtx { c.touch s.clock.time with holder := some p }).run.account = s.run.account :=
      State.setCtx_account ctx rfl rfl rfl rfl
    dsimp only
    repeat' split
    · exact taken
    · exact taken
    · exact (congrArg RunUnit.account (State.postTo_run ..)).trans taken
    · rfl

/-- A request of the holder starts from the account as it stands (R136). -/
theorem asHolder_account {f : RunContext → State → Answer}
    (act : ∀ c s, s.run.ctx = some c → (f c s).1.run.account = s.run.account) (p : Port) (s : State) :
    (asHolder p f s).1.run.account = s.run.account := by
  unfold asHolder
  split
  · rfl
  · rename_i c ctx
    split
    · exact (act _ _ rfl).trans (State.setCtx_account ctx rfl rfl rfl rfl)
    · rfl

/-- Every other request leaves the account as it is: those of the holder move the phase with the partial values of the vertical under
work as they are, and all but three more do not reach the run unit (`request_run`). -/
theorem request_account {i : Instr} {r : Request} (hr : requestOf i = some r) (other : changesAccount i = false) (long : Bool)
    (s : State) : (r.act long s).1.run.account = s.run.account := by
  cases reaches : reachesRun i with
  | false => exact congrArg RunUnit.account (request_run hr reaches long s)
  | true =>
    cases i
    case clearPort p => cases hr; exact clearPort_account p s
    case setClock p t => cases hr; exact setClock_account t s
    case takeRun p => cases hr; exact takeRun_account p s
    case markBed p =>
      cases hr
      refine asHolder_account (fun c s ctx => ?_) p s
      split
      · rename_i v phase
        exact State.setCtx_account ctx phase rfl rfl rfl
      · rfl
    case endVertical p _ _ | alter p _ =>
      cases hr
      refine asHolder_account (fun c s ctx => ?_) p s
      split
      · rename_i v phase
        split
        · rfl
        · exact State.setCtx_account ctx phase rfl rfl rfl
      · rfl
    case startPoint p f =>
      cases hr
      refine asHolder_account (fun c s ctx => ?_) p s
      split
      · rename_i v phase
        repeat' split
        · rfl
        · rfl
        · exact State.setCtx_account (s := s.startExposure ..) ctx phase rfl rfl rfl
      · rfl
    case stopPoint p =>
      cases hr
      refine asHolder_account (fun c s ctx => ?_) p s
      split
      · rename_i phase _
        exact State.setCtx_account (s := s.endExposure _) ctx phase rfl rfl rfl
      · rfl
    case redo p k =>
      cases hr
      refine asHolder_account (fun c s ctx => ?_) p s
      split
      · rename_i v phase
        dsimp only
        split
        · rfl
        · exact State.setCtx_account ctx phase rfl rfl rfl
        · exact State.setCtx_account ctx phase rfl rfl rfl
      · rfl
    case resumeRun p =>
      cases hr
      refine asHolder_account (fun c s ctx => ?_) p s
      split
      · rename_i r phase
        split
        · rfl
        · exact State.setCtx_account (d := { c with phase := .rest r }) ctx phase rfl rfl rfl
      · rfl
    case restart | openRun | markEdgeStart | beginVertical | accept | markEdgeEnd | closeRun | abandonRun => cases other
    all_goals cases reaches

/-! ### Requests that change the account -/

theorem SumsSound.openRun {s : State} (h : SumsSound s) (p : Port) (meter : Nat) (target : Int) (coeff : Option Int) :
    SumsSound (openRun p meter target coeff s).1 := by
  unfold Machine.openRun
  split
  · rename_i c ctx
    dsimp only [refuse]
    split
    · exact h.of_account (State.setCtx_account ctx rfl rfl rfl rfl)
    · exact h
  · split
    · exact h
    · exact h
    · exact .of_fit rfl .opened

theorem SumsSound.restart (s : State) (p : Port) : SumsSound (restart p s).1 :=
  .of_idle (congrArg RunUnit.ctx (State.postAll_run ..))

theorem SumsSound.endRun (s : State) (c : RunContext) (r : RunResult) (way : Param) : SumsSound (s.endRun c r way) :=
  .of_idle (congrArg RunUnit.ctx (State.postAll_run ..))

section Holder

variable {s : State} (h : SumsSound s) (p : Port)

include h

theorem SumsSound.asHolder {f : RunContext → State → Answer}
    (act : ∀ c s, s.run.ctx = some c → SumsSound s → SumsSound (f c s).1) : SumsSound (asHolder p f s).1 := by
  unfold Machine.asHolder
  split
  · exact h
  · rename_i c ctx
    split
    · exact act _ _ rfl (h.of_account (State.setCtx_account ctx rfl rfl rfl rfl))
    · exact h

theorem SumsSound.markEdgeStart (side : EdgeSide) (depth factor : Int) : SumsSound (markEdgeStart p side depth factor s).1 := by
  refine h.asHolder p fun c s ctx h => ?_
  split
  · rename_i opened
    exact .of_fit rfl ((h.fit ctx opened).startEdge ⟨rfl, rfl⟩)
  · exact h
  · exact h
  · exact h

theorem SumsSound.beginVertical : SumsSound (beginVertical p s).1 := by
  refine h.asHolder p fun c s ctx h => ?_
  split
  · rename_i ready
    dsimp only
    repeat' split
    · exact h
    · exact .of_fit rfl (h.fit ctx ready).beginVertical
    · exact h
  · exact h

/-- The accepted vertical joins the list with the partial values of the vertical under work, which are absent (R165). -/
theorem SumsSound.accept : SumsSound (accept p s).1 := by
  refine h.asHolder p fun c s ctx h => ?_
  split
  · rename_i v review
    have fit := h.fit ctx review
    have unfinalised : v.unfinalised := v.partials_eq_none.1 (fit.finalises.1 _ rfl)
    split
    · exact h
    · split
      · refine SumsSound.of_run ?_ (State.postAll_run ..)
        exact .of_fit rfl (fit.accept unfinalised)
      · exact h
  · exact h

theorem SumsSound.markEdgeEnd (depth factor : Int) : SumsSound (markEdgeEnd p depth factor s).1 := by
  refine h.asHolder p fun c s ctx h => ?_
  split
  · rename_i ready
    dsimp only
    repeat' split
    · exact h
    · exact .of_fit rfl ((h.fit ctx ready).endEdge ⟨rfl, rfl⟩)
    · exact h
  · exact h

theorem SumsSound.closeRun : SumsSound (closeRun p s).1 := by
  refine h.asHolder p fun c s ctx h => ?_
  split
  · exact .endRun _ _ _ _
  · exact h

theorem SumsSound.abandonRun : SumsSound (abandonRun p s).1 := h.asHolder p fun _ _ _ _ => .endRun _ _ _ _

end Holder

theorem SumsSound.request {i : Instr} {r : Request} (hr : requestOf i = some r) (long : Bool) {s : State} (h : SumsSound s) :
    SumsSound (r.act long s).1 := by
  cases changes : changesAccount i with
  | false => exact h.of_account (request_account hr changes long s)
  | true =>
    cases i
    case restart => cases hr; exact .restart _ _
    case openRun => cases hr; exact h.openRun _ _ _ _
    case markEdgeStart => cases hr; exact h.markEdgeStart _ _ _ _
    case beginVertical => cases hr; exact h.beginVertical _
    case accept => cases hr; exact h.accept _
    case markEdgeEnd => cases hr; exact h.markEdgeEnd _ _ _
    case closeRun => cases hr; exact h.closeRun _
    case abandonRun => cases hr; exact h.abandonRun _
    all_goals cases changes

/-! ### Every command -/

theorem SumsSound.exec {i : Instr} {s t : State} (h : SumsSound s) (e : exec i s = .next t) : SumsSound t :=
  exec_keeps (Inv := SumsSound)
    (stamp := fun _ _ h => h)
    (place := fun _ _ _ h => h)
    (exchange := fun _ _ _ h => h)
    (release := fun _ _ _ _ h => h)
    (request := fun _ _ long _ hr _ h => h.request hr long)
    (count := fun s h => h.of_account (stationClockCount_account s))
    (close := fun s h => h.of_account (minuteClose_account s))
    (sensing := fun _ _ _ h => h)
    (cableway := fun _ _ _ h => h)
    (meter := fun s ms h => h.of_account (exposureExpiry_account ms true s))
    (expose := fun s ms waits h => h.of_account (exposureExpiry_account ms waits s))
    (phase := fun _ _ _ h => h)
    (idle := fun s h => h.of_run s.idleExpiry_run)
    (deadline := fun s h => h.of_run s.deadlineExpiry_run)
    (completion := fun s h => h.of_run (saveCompletion_run s))
    (on := fun s held f t d _ => .of_idle (powerOn_idle s held f t d))
    (loss := fun _ h => h)
    h e

/-- Settles O11: a vertical is finalised with the one after it, each finalisation brings its values to the sums, and every other change
of a run keeps its account. -/
theorem stepKeepsSumsSound : Obligations.StepKeepsSumsSound := by
  intro s t h e
  unfold step at e
  split at e
  · cases e
    exact h
  · rename_i c rest _
    exact SumsSound.exec (s := { s with pending := rest }) h e

end Sys2Proof.Machine
end

section
/-! A save in progress (O10), and the next state of every command (O2). What a save holds fast is a view of the state: most commands
leave it as it is, a request of the settings changes the settings in it where no save is in progress, and the rest begin or end a
save. -/
namespace Sys2Proof.Machine

/-! ### What a save holds fast -/

/-- The queue, the settings, the store, the save, and the request in progress at each port. -/
structure SaveView where
  pending    : List Instr
  cfg        : Settings
  store      : Store
  save       : Option Save
  inProgress : Port → Option Byte

/-- What a save holds fast of a state. -/
def State.saveView (s : State) : SaveView := ⟨s.pending, s.cfg, s.store, s.save, fun p => (s.port p).inProgress⟩

/-- What `SaveSound` asks of a state (`saveSound_iff`). -/
def SaveView.Sound (v : SaveView) : Prop :=
  (∀ x, v.save = some x → v.store = ⟨false, v.cfg⟩) ∧
    ∀ p, v.inProgress p = if v.save.map Save.port = some p then some 0x08 else none

theorem saveSound_iff (s : State) : SaveSound s ↔ s.saveView.Sound := Iff.rfl

/-- What one command does to the view: nothing, other settings where no save is in progress, the beginning of a save, or the end of
a save, after which its port has no request in progress. -/
inductive SaveView.Step (v w : SaveView) : Prop
  | stands (same : w = v)
  | settings (cfg : Settings) (idle : v.save = none) (set : w = { v with cfg := cfg })
  | begun (x : Save) (idle : v.save = none)
      (begun : w = { v with
        save := some x, store := ⟨false, v.cfg⟩, inProgress := fun p => if p = x.port then some 0x08 else v.inProgress p })
  | ended (store : Store) (f : Port → Option Byte)
      (freed : ∀ p, f p = none ∨ (v.save.map Save.port ≠ some p ∧ f p = v.inProgress p))
      (ended : w = { v with save := none, store := store, inProgress := f })

namespace SaveView.Step

variable {v w : SaveView}

theorem pending (h : v.Step w) : w.pending = v.pending := by
  cases h <;> subst w <;> rfl

/-- During a save the settings stand (R195). -/
theorem cfg (h : v.Step w) (saving : v.save ≠ none) : w.cfg = v.cfg := by
  cases h with
  | stands same => rw [same]
  | settings cfg idle set => exact absurd idle saving
  | begun x idle begun => exact absurd idle saving
  | ended store f freed ended => rw [ended]

theorem sound (h : v.Step w) (sound : v.Sound) : w.Sound := by
  obtain ⟨store, progress⟩ := id sound
  cases h with
  | stands same => rwa [same]
  | settings cfg idle set =>
    subst set
    refine ⟨fun x saving => ?_, progress⟩
    exact nomatch idle.symm.trans saving
  | begun x idle begun =>
    subst begun
    refine ⟨fun _ _ => rfl, fun p => ?_⟩
    have free : v.inProgress p = none := by rw [progress, idle]; rfl
    simp only [free, Option.map_some, Option.some.injEq, eq_comm (a := p)]
  | ended store f freed ended =>
    subst ended
    refine ⟨nofun, fun p => ?_⟩
    rcases freed p with free | ⟨other, stands⟩
    · exact free
    · exact stands.trans ((progress p).trans (if_neg other))

end SaveView.Step

/-! ### Ports and notices -/

theorem State.setPort_saveView {s : State} {p : Port} {q : PortState} (same : q.inProgress = (s.port p).inProgress) :
    (s.setPort p q).saveView = s.saveView := by
  refine congrArg (SaveView.mk _ _ _ _) (funext fun x => ?_)
  rw [State.port_setPort]
  split
  · rename_i here
    rw [here, same]
  · rfl

theorem State.stamp_saveView (s : State) (p : Port) : (s.stamp p).saveView = s.saveView := State.setPort_saveView rfl

theorem State.place_saveView (s : State) (p : Port) (r : Response) : (s.place p r).saveView = s.saveView :=
  State.setPort_saveView rfl

theorem PortState.release_inProgress (q : PortState) (out : Frame) (moved : Nat) :
    (q.release out moved).inProgress = q.inProgress := by
  unfold PortState.release
  split
  · split <;> rfl
  · rfl

theorem PortState.received_inProgress (q : PortState) (mask : BitVec 18) (n : Notice) :
    (q.received mask n).inProgress = q.inProgress := by rw [PortState.received_queue]

theorem State.postTo_saveView (s : State) (p : Port) (n : Notice) : (s.postTo p n).saveView = s.saveView := by
  rw [State.postTo_eq]
  exact State.setPort_saveView (PortState.received_inProgress ..)

theorem State.postAll_saveView (s : State) (n : Notice) : (s.postAll n).saveView = s.saveView :=
  (State.postTo_saveView ..).trans ((State.postTo_saveView ..).trans (State.postTo_saveView ..))

theorem State.postWhen_saveView (s : State) (cond : Bool) (n : Notice) : (s.postWhen cond n).saveView = s.saveView := by
  unfold State.postWhen
  split
  · exact State.postAll_saveView ..
  · rfl

theorem State.postEach_saveView (s : State) (ns : List Notice) : (s.postEach ns).saveView = s.saveView := by
  induction ns generalizing s with
  | nil => rfl
  | cons n ns ih => exact (ih _).trans (s.postAll_saveView n)

/-! ### Events -/

/-- A write of the log tells the ports of what they lose, and no more (R36). -/
theorem State.writeEntry_saveView (s : State) (level : Level) : (s.writeEntry level).saveView = s.saveView := by
  rw [State.writeEntry_eq]
  refine congrArg (SaveView.mk _ _ _ _) (funext fun p => ?_)
  change (s.toldPorts.get p).inProgress = _
  rw [State.toldPorts, get_perPort, PortState.toldLoss]
  split
  · rfl
  · exact PortState.received_inProgress ..

theorem State.closeEntry_saveView (s : State) (level : Level) : (s.closeEntry level).saveView = s.saveView := by
  unfold State.closeEntry
  split
  · exact s.writeEntry_saveView level
  · rfl

theorem State.boundaryEntry_saveView (s : State) (closeTime : Nat) : (s.boundaryEntry closeTime).saveView = s.saveView := by
  unfold State.boundaryEntry
  split
  · exact State.closeEntry_saveView ..
  · rfl

theorem State.postRetrieve_saveView (s : State) (c : RunContext) (time : Nat) (e : Option RunState) :
    (s.postRetrieve c time e).saveView = s.saveView := by
  unfold State.postRetrieve
  cases c.holder with
  | some p => exact State.postTo_saveView ..
  | none => exact State.postAll_saveView ..

theorem State.retrieve_saveView (s : State) (time : Nat) : (s.retrieve time).saveView = s.saveView := by
  unfold State.retrieve
  cases s.run.ctx with
  | none => rfl
  | some c =>
    dsimp only
    cases c.phase with
    | opened | finished | retrieving _ => exact State.postRetrieve_saveView ..
    | rest r => exact State.postRetrieve_saveView (s.enterRetrieving c r) ..
    | exposing v f => cases s.cableway.exposure <;> exact State.postRetrieve_saveView ..

theorem State.entryRetrieve_saveView (s : State) (asked : Bool) (time : Nat) :
    (s.entryRetrieve asked time).saveView = s.saveView := by
  cases asked with
  | false => rfl
  | true => exact s.retrieve_saveView time

theorem SameBeyond.saveView {s t : State} (h : SameBeyond s t) : t.saveView = s.saveView := by
  rw [h]
  rfl

/-- An action entry closes the log entry, posts notices and asks for a retrieval (R85 to R89). -/
theorem State.takeEntry_saveView (s : State) (cls : TriggerClass) (time : Nat) : (s.takeEntry cls time).saveView = s.saveView := by
  have closed : ∀ i level, (s.closedFor i level).saveView = s.saveView := fun i level => by
    unfold State.closedFor
    split
    · rfl
    · exact s.closeEntry_saveView level
  refine (SameBeyond.takeEntry s cls time).saveView.trans ?_
  rw [State.entryRetrieve_saveView, State.postWhen_saveView, State.postWhen_saveView, State.postWhen_saveView, closed]

theorem minuteClose_saveView (s : State) : (minuteClose s).saveView = s.saveView := by
  unfold minuteClose
  split
  · refine evaluate_keeps (Inv := fun t => t.saveView = s.saveView) (fun _ _ h => h)
      (fun t cls time h => (t.takeEntry_saveView cls time).trans h) ?_ ..
    exact State.boundaryEntry_saveView ..
  · rfl

theorem State.idleExpiry_saveView (s : State) : s.idleExpiry.saveView = s.saveView := by
  unfold State.idleExpiry
  split <;> rfl

theorem State.deadlineExpiry_saveView (s : State) : s.deadlineExpiry.saveView = s.saveView := by
  unfold State.deadlineExpiry
  split
  · rfl
  · split
    · exact State.postAll_saveView ..
    · rfl

theorem stationClockCount_saveView (s : State) : (stationClockCount s).saveView = s.saveView := by
  have settled : s.settle.saveView = s.saveView :=
    (minuteClose_saveView _).trans ((State.deadlineExpiry_saveView _).trans s.idleExpiry_saveView)
  unfold stationClockCount
  split
  · exact (State.postEach_saveView ..).trans settled
  · rfl

theorem exposureExpiry_saveView (ms : Nat) (waits : Bool) (s : State) : (exposureExpiry ms waits s).saveView = s.saveView := by
  unfold exposureExpiry State.expireExposure
  repeat' split
  all_goals rfl

theorem State.resetClock_saveView (s : State) (t : Nat) : (s.resetClock t).saveView = s.saveView := by
  refine (State.postAll_saveView ..).trans ?_
  split
  · exact s.writeEntry_saveView s.warning.level
  · rfl

theorem powerOn_saveView (held : Bool) (f t d : LevelPair) (s : State) :
    (powerOn held f t d s).saveView = ⟨s.pending, s.loadedSettings, s.store, none, fun _ => none⟩ := by
  have port : ∀ p, ((powerOn held f t d s).port p).inProgress = none := fun p => by rw [powerOn_port]; rfl
  unfold State.saveView
  rw [funext port, powerOn_frame]
  rfl

/-- A completion ends the save of its port (R194). -/
theorem saveCompletion_step (s : State) : s.saveView.Step (saveCompletion s).saveView := by
  unfold saveCompletion
  split
  · exact .stands rfl
  · rename_i x saving
    refine .ended ⟨true, s.store.settings⟩ (fun p => if p = x.port then none else (s.port p).inProgress) (fun p => ?_) ?_
    · by_cases own : p = x.port
      · exact .inl (if_pos own)
      · refine .inr ⟨?_, if_neg own⟩
        change s.save.map Save.port ≠ some p
        rw [saving]
        exact fun same => own (Option.some.inj same).symm
    · refine (State.postAll_saveView ..).trans ((State.place_saveView ..).trans ?_)
      refine congrArg (SaveView.mk _ _ _ _) (funext fun p => ?_)
      rw [State.port_setPort, apply_ite PortState.inProgress]
      rfl

theorem mainPowerLoss_step (s : State) : s.saveView.Step (mainPowerLoss s).saveView :=
  .ended s.store (fun _ => none) (fun _ => .inl rfl) (congrArg (SaveView.mk _ _ _ _) (funext fun p => by cases p <;> rfl))

/-! ### Requests -/

theorem State.unhold_saveView (s : State) (p : Port) : (s.unhold p).saveView = s.saveView := by
  rw [State.unhold_eq]
  rfl

theorem State.force_saveView (s : State) (p : Port) (l : Level) : (s.force p l).saveView = s.saveView := by
  rw [State.force_eq]
  exact State.postAll_saveView ..

theorem State.endRun_saveView (s : State) (c : RunContext) (r : RunResult) (way : Param) :
    (s.endRun c r way).saveView = s.saveView := State.postAll_saveView ..

theorem State.abandonWork_saveView (s : State) (ph : RunPhase) : (s.abandonWork ph).saveView = s.saveView := by
  rw [State.abandonWork_eq]
  rfl

/-- The requests that change the settings or the course of a save. -/
def reachesSave (i : Instr) : Bool :=
  match i with
  | .setNoticeMask _ _ | .saveSettings _ | .restart _ | .setFloatStage _ _ | .setPressStage _ _ | .setSensing _ _ |
    .setLogSettings _ _ _ | .ratingCommit _ | .setWarningSettings _ _ | .setAction _ _ _ _ | .setAckSettings _ _ |
    .setPattern _ _ _ _ _ _ | .setMeter _ _ _ _ _ | .setCounterSettings _ _ _ _ | .setRunSettings _ _ => true
  | _ => false

/-- Every other request leaves what a save holds fast, whatever it answers: the cases go by the checks that stand before the
answer. -/
theorem request_saveView {i : Instr} {r : Request} (h : requestOf i = some r) (other : reachesSave i = false) (long : Bool)
    (s : State) : (r.act long s).1.saveView = s.saveView := by
  have editor : ∀ {f : State → Answer} (p : Port), (∀ s, (f s).1.saveView = s.saveView) →
      (asEditor p f s).1.saveView = s.saveView := fun p h => asEditor_view State.saveView (fun _ => rfl) h p s
  have holder : ∀ {f : RunContext → State → Answer} (p : Port), (∀ c s, (f c s).1.saveView = s.saveView) →
      (asHolder p f s).1.saveView = s.saveView := fun p h => asHolder_view State.saveView (fun _ _ => rfl) h p s
  cases i <;> cases h
  case setNoticeMask | saveSettings | restart | setFloatStage | setPressStage | setSensing | setLogSettings | ratingCommit |
      setWarningSettings | setAction | setAckSettings | setPattern | setMeter | setCounterSettings | setRunSettings => cases other
  case getPortStatus | getStage | getSensing | getClock | getLogStatus | getTrend | getLogSettings | getRatingStatus | getWarning |
      getWarningSettings | getAckSettings | getOutputs | readPosition | getCounterSettings | getRun | getRunSettings | seekLog |
      setInitialPoint | surfaceMark => rfl
  -- Requests that any port may make at any time.
  case readLog | advanceLog | ratingQuery | ratingBegin | ratingCancel | readRating | getAction | outputTest | getPattern |
      getMeter | openRun | readResult | readVertical =>
    dsimp only [readLog, advanceLog, ratingQuery, ratingBegin, ratingCancel, readRating, getAction, outputTest, getPattern,
      getMeter, openRun, readResult, readVertical]
    repeat' split
    all_goals rfl
  case readNotice p =>
    dsimp only [readNotice]
    split
    · rfl
    · exact State.setPort_saveView rfl
  case clearPort p =>
    dsimp only [clearPort, reply]
    rw [State.release_eq]
    exact (State.unhold_saveView ..).trans (State.setPort_saveView rfl)
  case setClock t =>
    dsimp only [setClock]
    split
    · rfl
    · exact (State.resetClock_saveView ..).trans ((minuteClose_saveView _).trans s.deadlineExpiry_saveView)
  case forceLevel p k =>
    dsimp only [forceLevel]
    split
    · rfl
    · exact s.force_saveView ..
  case ack p level =>
    dsimp only [ack]
    repeat' split
    · rfl
    · rfl
    · exact State.postAll_saveView ..
    · rfl
  case takeRun p =>
    dsimp only [takeRun]
    repeat' split
    · rfl
    · rfl
    · rfl
    · exact State.postTo_saveView ..
    · rfl
  -- Requests of the editor of the alternate bank.
  case ratingPoint p _ _ _ =>
    refine editor p fun s => ?_
    dsimp only
    repeat' split
    all_goals rfl
  case ratingTruncate p _ =>
    refine editor p fun s => ?_
    split <;> rfl
  -- Requests of the holder of the run.
  case markEdgeStart p _ _ _ | markBed p | startPoint p _ | stopPoint p | endVertical p _ _ | alter p _ | resumeRun p =>
    refine holder p fun c s => ?_
    repeat' split
    all_goals rfl
  case redo p _ | beginVertical p | markEdgeEnd p _ _ =>
    refine holder p fun c s => ?_
    split
    · dsimp only
      repeat' split
      all_goals rfl
    · rfl
  case accept p =>
    refine holder p fun c s => ?_
    repeat' split
    · rfl
    · exact State.postAll_saveView ..
    · rfl
    · rfl
  case closeRun p =>
    refine holder p fun c s => ?_
    split
    · exact State.endRun_saveView ..
    · rfl
  case abandonRun p => exact holder p fun c s => (State.endRun_saveView ..).trans (State.abandonWork_saveView ..)

theorem State.save_eq_none {s : State} (idle : ¬ s.saving = true) : s.save = none := by simpa [State.saving] using idle

/-- A request of the settings is refused during a save (R195). -/
theorem unlessSaving_step {f : State → Answer} {s : State} (act : ∃ cfg, (f s).1.saveView = { s.saveView with cfg := cfg }) :
    s.saveView.Step (unlessSaving f s).1.saveView := by
  unfold unlessSaving
  split
  · exact .stands rfl
  · rename_i idle
    obtain ⟨cfg, set⟩ := act
    exact .settings cfg (State.save_eq_none idle) set

/-- A commit is refused during a save (R55, R195). -/
theorem ratingCommit_step (p : Port) (s : State) : s.saveView.Step (ratingCommit p s).1.saveView := by
  unfold ratingCommit asEditor
  split
  · dsimp only
    split
    · exact .stands rfl
    · rename_i idle
      split
      · exact .stands rfl
      · exact .settings _ (State.save_eq_none idle) (State.postAll_saveView ..)
  · exact .stands rfl

theorem saveSettings_step (p : Port) (long : Bool) (s : State) : s.saveView.Step (saveSettings p long s).1.saveView := by
  unfold saveSettings
  split
  · exact .stands rfl
  · rename_i idle
    refine .begun ⟨p, s.rating.generation, s.cfg.bank.length, long⟩ (State.save_eq_none idle) ?_
    refine congrArg (SaveView.mk _ _ _ _) (funext fun q => ?_)
    exact (congrArg PortState.inProgress (State.port_setPort ..)).trans (apply_ite PortState.inProgress ..)

theorem restart_step (p : Port) (s : State) : s.saveView.Step (restart p s).1.saveView := by
  refine .ended s.store (fun _ => none) (fun _ => .inl rfl) ((State.postAll_saveView ..).trans ?_)
  exact congrArg (SaveView.mk _ _ _ _) (funext fun q => by cases q <;> rfl)

theorem request_step {i : Instr} {r : Request} (hr : requestOf i = some r) (long : Bool) (s : State) :
    s.saveView.Step (r.act long s).1.saveView := by
  cases reaches : reachesSave i with
  | false => exact .stands (request_saveView hr reaches long s)
  | true =>
    cases i
    case ratingCommit => cases hr; exact ratingCommit_step ..
    case saveSettings => cases hr; exact saveSettings_step ..
    case restart => cases hr; exact restart_step ..
    case setFloatStage | setCounterSettings => cases hr; exact unlessSaving_step ⟨_, rfl⟩
    case setNoticeMask | setPressStage | setLogSettings | setAction | setPattern | setRunSettings =>
      cases hr
      refine unlessSaving_step ?_
      split <;> exact ⟨_, rfl⟩
    case setSensing | setWarningSettings | setAckSettings | setMeter =>
      cases hr
      refine unlessSaving_step ?_
      dsimp only
      repeat' split
      all_goals exact ⟨_, rfl⟩
    all_goals cases reaches

/-! ### Every command -/

/-- A request that arrives is taken by its block and answered, or not taken. -/
theorem State.takeRequest_step {i : Instr} {r : Request} (hr : requestOf i = some r) (p : Port) (code : Byte) (long : Bool)
    (s : State) : s.saveView.Step (s.takeRequest p code long (r.act long)).saveView := by
  by_cases taken : s.takes p
  · rw [State.takeRequest_of_takes taken, ← s.stamp_saveView p]
    have act := request_step hr long (s.stamp p)
    unfold State.answer
    split
    · exact act
    · rwa [State.place_saveView]
  · rw [State.takeRequest_of_not_takes taken]
    exact .stands rfl

theorem exchangeBegin_saveView (p : Port) (s : State) : (exchangeBegin p s).saveView = s.saveView := by
  unfold exchangeBegin
  split
  · rfl
  · exact State.setPort_saveView rfl

theorem exchangeEnd_step (p : Port) (bytes : List Byte) (s : State) : s.saveView.Step (exchangeEnd p bytes s).saveView := by
  have released : ∀ out n, (s.setPort p ((s.port p).release out n)).saveView = s.saveView := fun out n =>
    State.setPort_saveView (PortState.release_inProgress ..)
  rcases exchangeEnd_cases p bytes s with ⟨-, idle⟩ | ⟨x, -, ⟨-, -, pending⟩ | ⟨-, received⟩⟩
  · rw [idle]
    exact .stands rfl
  · rw [pending]
    exact .stands (released ..)
  · rw [received, ← released x.outgoing (x.shifter ++ bytes).length]
    generalize s.setPort p ((s.port p).release x.outgoing (x.shifter ++ bytes).length) = t
    rcases t.receive_cases p (x.shifter ++ bytes) with nothing | ⟨r, refused⟩ | ⟨i, r, code, long, hr, -, taken⟩
    · rw [nothing]
      exact .stands rfl
    · rw [refused]
      exact .stands (State.place_saveView ..)
    · rw [taken]
      exact State.takeRequest_step hr ..

/-- Every command but a power-on, which starts the part anew (`powerOn_saveView`). -/
theorem exec_step {i : Instr} {s t : State} (running : ∀ b x y z, i ≠ .powerOn b x y z) (e : exec i s = .next t) :
    s.saveView.Step t.saveView := by
  have acts : ∀ {f : State → State}, event f s = .next t → s.saveView.Step (f s).saveView → s.saveView.Step t.saveView := by
    rintro f ⟨⟩ step
    unfold State.whenPowered
    split
    · exact step
    · exact .stands rfl
  cases hr : requestOf i with
  | some r =>
    rw [exec_of_request hr] at e
    cases e
    exact State.takeRequest_step hr ..
  | none =>
    cases i
    case stationClockCount => cases e; exact .stands (stationClockCount_saveView s)
    case minuteClose => exact acts e (.stands (minuteClose_saveView s))
    case floatEncoderTransition | pressCharacterArrival | pressIdleGap | pressLineReturnsHigh | traverseTransition |
        soundingTransition | phaseExpiry => exact acts e (.stands rfl)
    case meterClosure ms => exact acts e (.stands (exposureExpiry_saveView ms true s))
    case exposureExpiry a => exact acts e (.stands (exposureExpiry_saveView a.ms a.waits s))
    case idleExpiry => exact acts e (.stands s.idleExpiry_saveView)
    case deadlineExpiry => exact acts e (.stands s.deadlineExpiry_saveView)
    case saveCompletion => exact acts e (saveCompletion_step s)
    case powerOn => exact (running _ _ _ _ rfl).elim
    case mainPowerLoss => exact acts e (mainPowerLoss_step s)
    case exchangeBegin p => exact acts e (.stands (exchangeBegin_saveView p s))
    case exchangeEnd p bytes => exact acts e (exchangeEnd_step p bytes s)
    case null => cases e; exact .stands rfl
    all_goals cases hr

theorem SaveSound.exec {i : Instr} {s t : State} (h : SaveSound s) (e : exec i s = .next t) : SaveSound t := by
  by_cases on : ∃ b x y z, i = .powerOn b x y z
  · obtain ⟨b, x, y, z, rfl⟩ := on
    cases e
    rw [saveSound_iff, powerOn_saveView]
    exact ⟨nofun, fun _ => rfl⟩
  · exact (exec_step (fun b x y z same => on ⟨b, x, y, z, same⟩) e).sound h

/-- Settles O10: a step of the view keeps it sound, and during a save leaves the settings in it. -/
theorem stepKeepsSaveSound : Obligations.StepKeepsSaveSound := by
  refine ⟨fun s t h e => ?_, fun i s t saving running e => (exec_step running e).cfg saving⟩
  unfold step at e
  split at e
  · cases e
    exact h
  · rename_i c rest _
    exact SaveSound.exec (s := { s with pending := rest }) h e

/-! ### The next state -/

/-- No command stops the part (log 34). -/
theorem exec_next (i : Instr) (s : State) : ∃ t, exec i s = .next t := by
  cases hr : requestOf i with
  | some r => exact ⟨_, exec_of_request hr s⟩
  | none =>
    cases i
    case stationClockCount | minuteClose | floatEncoderTransition | pressCharacterArrival | pressIdleGap | traverseTransition |
        soundingTransition | meterClosure | exposureExpiry | phaseExpiry | idleExpiry | deadlineExpiry | saveCompletion | powerOn |
        mainPowerLoss | exchangeBegin | exchangeEnd | null | pressLineReturnsHigh => exact ⟨_, rfl⟩
    all_goals cases hr

theorem exec_pending {i : Instr} {s t : State} (e : exec i s = .next t) : t.pending = s.pending := by
  by_cases on : ∃ b x y z, i = .powerOn b x y z
  · obtain ⟨b, x, y, z, rfl⟩ := on
    cases e
    exact congrArg SaveView.pending (powerOn_saveView b x y z s)
  · exact (exec_step (fun b x y z same => on ⟨b, x, y, z, same⟩) e).pending

/-- Without main power an event at a block does not occur (log 9). -/
theorem event_of_unpowered {s : State} (off : s.powered = false) (f : State → State) : event f s = .next s := by
  simp [event, State.whenPowered, off]

theorem exec_of_not_takes {i : Instr} {r : Request} {s : State} (hr : requestOf i = some r) (h : ¬ s.takes r.port) :
    exec i s = .next s := by rw [exec_of_request hr, State.takeRequest_of_not_takes h]

theorem exec_of_unpowered {i : Instr} {s : State} (off : s.powered = false) (count : i ≠ .stationClockCount)
    (on : ∀ b x y z, i ≠ .powerOn b x y z) : exec i s = .next s := by
  cases hr : requestOf i with
  | some r =>
    refine exec_of_not_takes hr fun ⟨powered, _⟩ => ?_
    exact nomatch off.symm.trans powered
  | none =>
    cases i
    case stationClockCount => exact absurd rfl count
    case powerOn => exact (on _ _ _ _ rfl).elim
    case null => rfl
    case minuteClose | floatEncoderTransition | pressCharacterArrival | pressIdleGap | traverseTransition | soundingTransition |
        meterClosure | exposureExpiry | phaseExpiry | idleExpiry | deadlineExpiry | saveCompletion | mainPowerLoss |
        exchangeBegin | exchangeEnd | pressLineReturnsHigh => exact event_of_unpowered off _
    all_goals cases hr

/-- Settles O2: every arm of the dispatch answers a next state, and no step of the view reaches the queue. -/
theorem everyCommandHasNextState : Obligations.EveryCommandHasNextState := by
  refine ⟨fun c s => ?_, fun i r s hr => exec_of_not_takes hr, fun i s => exec_of_unpowered⟩
  obtain ⟨t, e⟩ := exec_next c s
  exact ⟨t, e, exec_pending e⟩

end Sys2Proof.Machine
end

section
/-! A posting at the ports (O4), and SAVE_SETTINGS with SAVE_COMPLETION (O56). -/
namespace Sys2Proof.Machine

/-! ### A posting -/

theorem markNewest_concat (front : List Notice) (last : Notice) :
    markNewest (front ++ [last]) = front ++ [{ last with lostAfter := true }] := by
  induction front with
  | nil => rfl
  | cons n front ih =>
    cases front with
    | nil => rfl
    | cons m rest => exact congrArg (n :: ·) ih

section Received

variable {q : PortState} {mask : BitVec 18} {n : Notice}

theorem PortState.received_of_excluded (excluded : admits mask n.kind = false) : q.received mask n = q :=
  if_neg (by simp [excluded])

theorem PortState.received_of_admitted (admitted : admits mask n.kind = true) :
    (q.received mask n).queue = enqueue q.queue n :=
  congrArg PortState.queue (if_pos admitted)

end Received

/-- Settles O4: a posting is received by every port for itself. -/
theorem noticePosting : Obligations.NoticePosting := by
  intro s n
  refine ⟨s.postAll_frame n, fun q => ?_⟩
  rw [State.port_postAll]
  refine ⟨PortState.received_queue .., fun excluded => ?_, fun admitted room => ?_, fun admitted front last queue full => ?_⟩
  · rw [PortState.received_of_excluded excluded]
  · exact (PortState.received_of_admitted admitted).trans (if_pos room)
  · have no_room : ¬ (front ++ [last]).length < 16 := by simp [full]
    rw [PortState.received_of_admitted admitted, queue, ← markNewest_concat]
    exact if_neg no_room

/-! ### The save cycle -/

theorem saveSettings_busy {s : State} (saving : s.save ≠ none) (p : Port) (long : Bool) :
    saveSettings p long s = refuse s .busy :=
  if_pos (by simpa [State.saving, Option.isSome_iff_ne_none] using saving)

/-- A save begins with the working settings in the INVALID store, its port with a request in progress (R194). -/
theorem saveSettings_begun {s : State} (idle : s.save = none) (p : Port) (long : Bool) :
    saveSettings p long s = ({ s with
      ports := s.ports.set p { s.port p with inProgress := some 0x08 }
      save := some ⟨p, s.rating.generation, s.cfg.bank.length, long⟩
      store := ⟨false, s.cfg⟩ }, none) :=
  if_neg (by simp [State.saving, idle])

theorem exec_saveSettings_begun {p : Port} {s : State} (taken : s.takes p) (idle : s.save = none) :
    exec (.saveSettings p) s = .next { s with
      ports := s.ports.set p { s.port p with lastRequest := some s.clock.time, inProgress := some 0x08 }
      save := some ⟨p, s.rating.generation, s.cfg.bank.length, false⟩
      store := ⟨false, s.cfg⟩ } := by
  have begun := saveSettings_begun (s := s.stamp p) idle p false
  rw [State.port_stamp, State.stamp, State.setPort, PerPort.set_set] at begun
  rw [exec_of_request (i := .saveSettings p) rfl, State.takeRequest_of_takes taken]
  exact congrArg Host.Outcome.next (congrArg (State.answer p 0x08 false) begun)

theorem saveCompletion_of_idle {s : State} (idle : s.save = none) : saveCompletion s = s := by
  unfold saveCompletion
  rw [idle]

/-- A completion validates the store and answers on the saving port, then posts SETTINGS_SAVED (R194). -/
theorem saveCompletion_of_saving {s : State} {x : Save} (saving : s.save = some x) :
    saveCompletion s = ({ s with
      save := none
      store := ⟨true, s.store.settings⟩
      ports := s.ports.set x.port { s.port x.port with
        inProgress := none
        slot := some ⟨.ok, (s.port x.port).slot.isSome, x.long, 0x08, .saved x.generation x.points⟩ } }).postAll
      ⟨.settingsSaved, s.clock.time, some (.port x.port), some (.num x.generation), none, false⟩ := by
  unfold saveCompletion
  rw [saving]
  dsimp only [State.place, notice, saveCode]
  rw [State.port_setPort, if_pos rfl]
  dsimp only [State.setPort]
  rw [PerPort.set_set]
  rfl

/-- Settles O56: a save is begun by its request alone and completed by its event alone. -/
theorem saveCycle : Obligations.SaveCycle := by
  refine ⟨fun p s taken => ⟨fun saving => ?_, exec_saveSettings_begun taken⟩, fun s powered => ⟨fun idle => ?_, fun x saving => ?_⟩⟩
  · exact exec_refused (i := .saveSettings p) rfl taken (saveSettings_busy (s := s.stamp p) saving p false)
  · exact (event_of_powered powered _).trans (congrArg _ (saveCompletion_of_idle idle))
  · exact (event_of_powered powered _).trans (congrArg _ (saveCompletion_of_saving saving))

end Sys2Proof.Machine
end

section
/-! EXCHANGE_BEGIN and EXCHANGE_END (O53), and the NULL request (O54). -/
namespace Sys2Proof.Machine

/-! ### Frames as they are sent -/

/-- A check as it is sent, byte by byte, is that check (R176). -/
theorem checkBytes_join (x : BitVec 16) : x.extractLsb' 8 8 ++ x.extractLsb' 0 8 = x := (checkBytes_eq_iff ..).1 rfl

/-- The six low bits of a status byte (R192). -/
theorem Status.code_bits (st : Status) : st.code.extractLsb' 0 6 = match st with
    | .ok => 0x10#6 | .okClamped => 0x11#6 | .badFrame => 0x20#6 | .shortFrame => 0x21#6 | .unknownRequest => 0x22#6
    | .badLength => 0x23#6 | .badValue => 0x24#6 | .busy => 0x25#6 | .notHolder => 0x30#6 | .heldByOther => 0x31#6
    | .wrongState => 0x32#6 | .stale => 0x33#6 | .nothingPending => 0x34#6 | .tooFew => 0x35#6 | .outOfOrder => 0x36#6
    | .full => 0x37#6 | .incomplete => 0x38#6 | .runOpen => 0x39#6 | .levelTooHigh => 0x3A#6 | .invalidTable => 0x3B#6 := by
  cases st <;> rfl

/-- The length byte of a response is the length of its payload (R176, R177). -/
theorem Body.length_byte (b : Body) : b.payload.length = (BitVec.ofNat 8 b.payload.length).toNat := by
  have fits := b.payload_length_le
  rw [BitVec.toNat_ofNat]
  omega

/-! ### Whole frames -/

section Whole

variable {code len c1 c2 : Byte} {payload after rest : List Byte} (fits : len.toNat ≤ 56)
variable (split : rest = payload ++ c1 :: c2 :: after) (whole : payload.length = len.toNat)

include fits split whole

theorem examine_badFrame (invalid : ¬ c1 ++ c2 = crc (code :: len :: payload)) :
    examine (code :: len :: rest) = .refused code .badFrame (decide (len.toNat + 2 < rest.length)) := by
  subst split
  exact (examine_whole c1 c2 after fits whole).trans (if_pos invalid)

variable (valid : c1 ++ c2 = crc (code :: len :: payload))

include valid

theorem examine_null (null : code = 0) : examine (code :: len :: rest) =
    if len.toNat = 0 then .nothing else .refused code .badLength (decide (len.toNat + 2 < rest.length)) := by
  subst split
  exact (examine_whole c1 c2 after fits whole).trans ((if_neg (not_not.2 valid)).trans (if_pos null))

theorem examine_unknown (asks : code ≠ 0) (unknown : ¬ knownCode code = true) :
    examine (code :: len :: rest) = .refused code .unknownRequest (decide (len.toNat + 2 < rest.length)) := by
  subst split
  exact (examine_whole c1 c2 after fits whole).trans
    ((if_neg (not_not.2 valid)).trans ((if_neg asks).trans (if_neg unknown)))

theorem examine_known (asks : code ≠ 0) (known : knownCode code = true) :
    examine (code :: len :: rest) = .request code payload (decide (len.toNat + 2 < rest.length)) := by
  subst split
  exact (examine_whole c1 c2 after fits whole).trans
    ((if_neg (not_not.2 valid)).trans ((if_neg asks).trans (if_pos known)))

end Whole

/-! ### The request of a frame -/

section Parse

variable {p : Port} {code : Byte}

theorem fieldlessRequest_asks {i : Instr} (h : fieldlessRequest p code = some i) : code ≠ 0 := by
  rintro rfl
  cases h

theorem fieldlessRequest_known {i : Instr} (h : fieldlessRequest p code = some i) : knownCode code = true := by
  unfold knownCode
  rw [fieldlessRequest_isSome .a p, h]
  rfl

/-- A request without fields needs length 0 (R178, check 8). -/
theorem parseRequest_fieldless {i : Instr} (h : fieldlessRequest p code = some i) (payload : List Byte) :
    parseRequest p code payload = if payload.length = 0 then some i else none := by
  unfold parseRequest lengthFits
  rw [fieldlessRequest_isSome .a p, h]
  simp

/-- SET_NOTICE_MASK needs its four mask bytes (R178, R192). -/
theorem parseRequest_mask (p : Port) (payload : List Byte) :
    parseRequest p 0x03 payload = if payload.length = 4 then some (.setNoticeMask p ((maskOf payload).getD 0)) else none := by
  have fits : lengthFits 0x03 payload.length = decide (payload.length = 4) := rfl
  unfold parseRequest
  rw [fits]
  simp only [decide_eq_true_eq]
  rfl

/-- Every other request needs a length that its fields allow (R178, log 3). -/
theorem parseRequest_fielded (fielded : fieldlessRequest p code = none) (other : code ≠ 0x03) (payload : List Byte) :
    parseRequest p code payload = if Config.lengthAllowed code payload.length then fieldedRequest p code payload else none := by
  have fits : lengthFits code payload.length = Config.lengthAllowed code payload.length := by
    unfold lengthFits
    rw [fieldlessRequest_isSome .a p, fielded]
    exact if_neg other
  unfold parseRequest
  rw [fits, fielded]
  rfl

theorem fieldedRequest_of_known (known : knownCode code = true) (fielded : fieldlessRequest p code = none)
    (payload : List Byte) : ∃ i, fieldedRequest p code payload = some i := by
  unfold knownCode at known
  rw [fieldlessRequest_isSome .a p, fielded, fieldedRequest_isSome .a p code [] payload] at known
  exact Option.isSome_iff_exists.1 (by simpa using known)

end Parse

/-! ### The bytes received -/

section Receive

variable {s : State} {p : Port} {bs : List Byte} {code : Byte} {long : Bool}

theorem State.receive_nothing (h : examine bs = .nothing) : s.receive p bs = s := by
  unfold State.receive
  rw [h]

theorem State.receive_refused {st : Status} (h : examine bs = .refused code st long) :
    s.receive p bs = s.refuseFrame p code st long := by
  unfold State.receive
  rw [h]

variable {payload : List Byte} (h : examine bs = .request code payload long)

include h

theorem State.receive_request {i : Instr} {r : Request} (parsed : parseRequest p code payload = some i)
    (hr : requestOf i = some r) : s.receive p bs = s.takeRequest p code long (r.act long) := by
  unfold State.receive
  rw [h]
  dsimp only
  rw [parsed, Option.bind_some, hr]

theorem State.receive_misfit (misfit : parseRequest p code payload = none) :
    s.receive p bs = s.refuseFrame p code .badLength long := by
  unfold State.receive
  rw [h]
  dsimp only
  rw [misfit]
  rfl

/-- A request without fields is taken at length 0 alone. -/
theorem State.receive_fieldless {i : Instr} {r : Request} (fieldless : fieldlessRequest p code = some i)
    (hr : requestOf i = some r) :
    (payload.length ≠ 0 → s.receive p bs = s.refuseFrame p code .badLength long) ∧
      (payload.length = 0 → s.receive p bs = s.takeRequest p code long (r.act long)) := by
  have parsed := parseRequest_fieldless fieldless payload
  exact ⟨fun fields => State.receive_misfit h (parsed.trans (if_neg fields)),
    fun empty => State.receive_request h (parsed.trans (if_pos empty)) hr⟩

/-- SET_NOTICE_MASK is taken with its four mask bytes alone. -/
theorem State.receive_mask (mask : code = 0x03) :
    (payload.length ≠ 4 → s.receive p bs = s.refuseFrame p code .badLength long) ∧
      ∀ (b3 b2 b1 b0 : Byte) (r : Request), payload = [b3, b2, b1, b0] →
        requestOf (.setNoticeMask p (b3 ++ b2 ++ b1 ++ b0)) = some r →
        s.receive p bs = s.takeRequest p code long (r.act long) := by
  subst mask
  have parsed := parseRequest_mask p payload
  refine ⟨fun other => State.receive_misfit h (parsed.trans (if_neg other)), ?_⟩
  rintro b3 b2 b1 b0 r rfl hr
  exact State.receive_request h parsed hr

/-- Every other request is taken at a length that its fields allow. -/
theorem State.receive_fielded (known : knownCode code = true) (other : code ≠ 0x03) (fielded : fieldlessRequest p code = none) :
    if Config.lengthAllowed code payload.length then ∃ (i : Instr) (r : Request), requestOf i = some r ∧ r.port = p ∧
      r.code = code ∧ s.receive p bs = s.takeRequest p code long (r.act long)
    else s.receive p bs = s.refuseFrame p code .badLength long := by
  have parsed := parseRequest_fielded fielded other payload
  split
  · rename_i allowed
    obtain ⟨i, request⟩ := fieldedRequest_of_known known fielded payload
    obtain ⟨r, hr, port, echo⟩ := fieldedRequest_request request
    exact ⟨i, r, hr, port, echo, State.receive_request h ((parsed.trans (if_pos allowed)).trans request) hr⟩
  · rename_i outside
    exact State.receive_misfit h (parsed.trans (if_neg outside))

end Receive

/-! ### The end of an exchange -/

/-- The part after select is released on a port: the frame's bytes are shifted out, and the slot is as the exchange leaves it
(R175). -/
def State.deselected (s : State) (p : Port) (x : Exchange) (moved : Nat) (slot : Option Response) : State :=
  s.setPort p { s.port p with exchange := none, slot := slot, shiftedOut := x.outgoing.shifted moved }

/-- The slot that the exchange of a frame leaves: emptied of a response that was shifted out whole (R175, R182). -/
def Exchange.Leaves (x : Exchange) (q : PortState) (moved : Nat) (slot : Option Response) : Prop :=
  x.outgoing = .null ∧ slot = q.slot ∨
    ∃ r, x.outgoing = .response r ∧ slot = if (Frame.response r).bytes.length ≤ moved then none else q.slot

theorem PortState.release_response (q : PortState) (r : Response) (moved : Nat) :
    q.release (.response r) moved = { q with
      exchange := none
      slot := if (Frame.response r).bytes.length ≤ moved then none else q.slot
      shiftedOut := (Frame.response r).shifted moved } := by
  unfold PortState.release
  dsimp only
  split <;> rfl

/-- An answer of the port unit itself after select is released: REPLACED where the exchange left a response in the slot (R182). -/
theorem State.deselected_refuseFrame (s : State) (p : Port) (x : Exchange) (moved : Nat) (slot : Option Response) (code : Byte)
    (st : Status) (long : Bool) :
    (s.deselected p x moved slot).refuseFrame p code st long =
      (s.deselected p x moved slot).setPort p { (s.deselected p x moved slot).port p with
        slot := some ⟨st, slot.isSome, long, code, .empty⟩ } := by
  have left : ((s.deselected p x moved slot).port p).slot = slot :=
    congrArg PortState.slot ((State.port_setPort ..).trans (if_pos rfl))
  unfold State.refuseFrame State.place
  rw [left]

section ExchangeEnd

variable {s : State} {p : Port} {x : Exchange} {bytes : List Byte}
variable (powered : s.powered = true) (exchange : (s.port p).exchange = some x)

include powered exchange

/-- The bytes of a PENDING exchange are ignored (R181). -/
theorem exec_exchangeEnd_pending {e : Byte} (pending : x.outgoing = .pending e) :
    exec (.exchangeEnd p bytes) s = .next (s.deselected p x (x.shifter ++ bytes).length (s.port p).slot) := by
  refine (event_of_powered powered _).trans (congrArg _ ?_)
  unfold exchangeEnd State.deselected
  rw [exchange]
  dsimp only
  rw [pending]
  rfl

/-- The bytes of every other exchange are examined once the frame is shifted out (R175, R178). -/
theorem exec_exchangeEnd_received {slot : Option Response} (leaves : x.Leaves (s.port p) (x.shifter ++ bytes).length slot) :
    exec (.exchangeEnd p bytes) s =
      .next ((s.deselected p x (x.shifter ++ bytes).length slot).receive p (x.shifter ++ bytes)) := by
  refine (event_of_powered powered _).trans (congrArg _ ?_)
  unfold exchangeEnd State.deselected
  rw [exchange]
  dsimp only
  rcases leaves with ⟨null, rfl⟩ | ⟨r, response, rfl⟩
  · rw [null]
    rfl
  · rw [response]
    dsimp only
    rw [PortState.release_response]

end ExchangeEnd

/-! ### The NULL request -/

/-- The frame of a NULL request, with or without surplus bytes, is taken by no block (R179). -/
theorem examine_nullRequest (surplus : List Byte) : examine ([0x00, 0x00, 0x1D, 0x0F] ++ surplus) = .nothing :=
  examine_null (payload := []) (by decide) (List.nil_append (0x1D :: 0x0F :: surplus)).symm rfl (by decide +kernel) rfl

/-- Settles O54: the bytes of a NULL request examine to nothing, so the exchange leaves what the release of select left. -/
theorem nullRequest : Obligations.NullRequest := by
  intro p s
  refine ⟨rfl, fun x bytes surplus powered exchange bs => ?_⟩
  have length : (x.shifter ++ bytes).length = 4 + surplus.length := by
    rw [bs, List.length_append]
    rfl
  have ends : ∀ {slot}, x.Leaves (s.port p) (4 + surplus.length) slot → ∃ out : List Byte, exec (.exchangeEnd p bytes) s =
      .next (s.setPort p { s.port p with exchange := none, slot := slot, shiftedOut := out }) := by
    intro slot leaves
    rw [← length] at leaves
    rw [exec_exchangeEnd_received powered exchange leaves, bs, State.receive_nothing (examine_nullRequest surplus)]
    exact ⟨_, rfl⟩
  refine ⟨fun null => ends (.inl ⟨null, rfl⟩), fun r response whole => ?_, fun r response cut => ?_⟩
  · exact ends (.inr ⟨r, response, (if_pos whole).symm⟩)
  · exact ends (.inr ⟨r, response, (if_neg (Nat.not_le.2 cut)).symm⟩)

/-! ### The obligation -/

theorem exchangeBegin_of_idle {s : State} {p : Port} (idle : (s.port p).exchange = none) :
    exchangeBegin p s = s.setPort p { s.port p with exchange := some ⟨(s.port p).outgoing, []⟩ } := by
  unfold exchangeBegin
  rw [idle]

theorem exchangeBegin_of_exchange {s : State} {p : Port} (busy : (s.port p).exchange ≠ none) : exchangeBegin p s = s := by
  obtain ⟨x, exchange⟩ := Option.ne_none_iff_exists'.1 busy
  unfold exchangeBegin
  rw [exchange]

theorem exchangeEnd_of_idle {s : State} {p : Port} (idle : (s.port p).exchange = none) (bytes : List Byte) :
    exchangeEnd p bytes s = s := by
  unfold exchangeEnd
  rw [idle]

/-- The outgoing frame of a port (R175, R181). -/
theorem PortState.outgoing_eq {q : PortState} {out : Frame}
    (h : (∃ e, q.inProgress = some e ∧ out = .pending e) ∨
      (q.inProgress = none ∧ ∃ r, q.slot = some r ∧ out = .response r) ∨
      (q.inProgress = none ∧ q.slot = none ∧ out = .null)) : q.outgoing = out := by
  unfold PortState.outgoing
  rcases h with ⟨e, asked, rfl⟩ | ⟨free, r, slot, rfl⟩ | ⟨free, slot, rfl⟩
  · rw [asked]
  · rw [free, slot]
  · rw [free, slot]

/-- Settles O53: the layouts byte by byte, and an exchange by what its bytes examine to. -/
theorem exchanges : Obligations.Exchanges := by
  refine ⟨by decide +kernel, fun e => ⟨_, _, rfl, checkBytes_join _⟩, Frame.shifted_spec,
    fun p code i h => fieldlessRequest_request h, fun r => ?_, fun p s powered => ?_⟩
  · obtain ⟨replaced, long, code⟩ := statusByte_fields r
    exact ⟨statusByte r, BitVec.ofNat 8 r.body.payload.length, _, _, r.body.payload, rfl, checkBytes_join _, r.body.length_byte,
      r.body.payload_length_le, fun empty => by rw [empty]; rfl, replaced, long, code.trans r.status.code_bits⟩
  intro q
  refine ⟨fun idle out frame => ?_, fun busy => ?_, fun idle bytes => ?_, fun x bytes exchange => ?_⟩
  · rw [← PortState.outgoing_eq frame]
    exact (event_of_powered powered _).trans (congrArg _ (exchangeBegin_of_idle idle))
  · exact (event_of_powered powered _).trans (congrArg _ (exchangeBegin_of_exchange busy))
  · exact (event_of_powered powered _).trans (congrArg _ (exchangeEnd_of_idle idle bytes))
  intro bs run out
  refine ⟨fun e pending => exec_exchangeEnd_pending powered exchange pending, fun slot leaves => ?_⟩
  intro u refused
  have received : run = .next (u.receive p bs) := exec_exchangeEnd_received powered exchange leaves
  have refuse {code st long} (h : u.receive p bs = u.refuseFrame p code st long) : refused code st long :=
    received.trans (congrArg _ (h.trans (s.deselected_refuseFrame p x bs.length slot code st long)))
  have act {t : State} (h : u.receive p bs = t) : run = .next t := received.trans (congrArg _ h)
  clear_value bs run u refused
  refine ⟨?_, ?_, fun code len rest shape => ?_⟩
  · rintro rfl
    exact act (State.receive_nothing rfl)
  · rintro code rfl
    exact refuse (State.receive_refused rfl)
  subst shape
  intro n long c known
  refine ⟨fun oversize => refuse (State.receive_refused (examine_oversize oversize)),
    fun fits short => refuse (State.receive_refused (examine_short fits short)), fun fits payload after c1 c2 split whole => ?_⟩
  intro valid
  have asks (nonzero : c ≠ 0) : code ≠ 0 := fun null => nonzero (congrArg BitVec.toNat null)
  have catalogue (nonzero : c ≠ 0) : knownCode code = true ↔ known := knownCode_iff code nonzero
  have request (check : valid) (nonzero : c ≠ 0) (listed : known) : examine (code :: len :: rest) = .request code payload long :=
    examine_known fits split whole check (asks nonzero) ((catalogue nonzero).2 listed)
  refine ⟨fun invalid => refuse (State.receive_refused (examine_badFrame fits split whole invalid)), fun check null => ?_,
    fun check nonzero unknown => ?_, fun check i r fieldless hr => ?_, fun check mask => ?_,
    fun check listed other fielded => ?_⟩
  · have examined := examine_null fits split whole check (BitVec.eq_of_toNat_eq null)
    split
    · rename_i empty
      exact act (State.receive_nothing (examined.trans (if_pos empty)))
    · rename_i surplus
      exact refuse (State.receive_refused (examined.trans (if_neg surplus)))
  · exact refuse (State.receive_refused
      (examine_unknown fits split whole check (asks nonzero) (mt (catalogue nonzero).1 unknown)))
  · have examined := examine_known fits split whole check (fieldlessRequest_asks fieldless) (fieldlessRequest_known fieldless)
    obtain ⟨misfit, taken⟩ := State.receive_fieldless (s := u) examined fieldless hr
    rw [whole] at misfit taken
    exact ⟨fun fields => refuse (misfit fields), fun empty => act (taken empty)⟩
  · have examined := request check (by omega) (.inl (by omega))
    obtain ⟨misfit, taken⟩ := State.receive_mask (s := u) (p := p) examined (BitVec.eq_of_toNat_eq mask)
    rw [whole] at misfit
    exact ⟨fun other => refuse (misfit other), fun b3 b2 b1 b0 r bytes hr => act (taken b3 b2 b1 b0 r bytes hr)⟩
  · have nonzero : c ≠ 0 := by omega
    have taken := State.receive_fielded (s := u) (request check nonzero listed) ((catalogue nonzero).2 listed)
      (fun mask => other (congrArg BitVec.toNat mask)) fielded
    rw [whole] at taken
    split at taken
    · rename_i allowed
      obtain ⟨i, r, hr, port, echo, answer⟩ := taken
      rw [if_pos allowed]
      exact ⟨i, r, hr, port, echo, act answer⟩
    · rename_i outside
      rw [if_neg outside]
      exact refuse taken

end Sys2Proof.Machine
end

section
/-! The step by the queue (O1): the command at the front with the rest behind it, or nothing to take. -/
namespace Sys2Proof.Machine

theorem step_of_front {s : State} {c : Instr} {rest : List Instr} (front : s.pending = c :: rest) :
    step s = exec c { s with pending := rest } := by
  unfold step
  rw [front]

/-- With no command waiting the part idles (log 1). -/
theorem step_of_idle {s : State} (idle : s.pending = []) : step s = .next s := by
  unfold step
  rw [idle]

/-- Settles O1: the queue names its front command, or is empty. -/
theorem stepTakesFrontCommand : Obligations.StepTakesFrontCommand :=
  ⟨fun _ _ _ => step_of_front rfl, fun _ => step_of_idle rfl⟩

end Sys2Proof.Machine
end
